-- ==== Sys2Proof/Word.lean ====
section
/-! DEFINITION. The plain data words of the codec block: bytes, MdecCodes, bit strings. -/

namespace Sys2Proof

/-- A byte of any of the block's spaces (20_memory.md R60). -/
abbrev Byte := BitVec 8

/-- A 16-bit MdecCode (10_state.md R21): top in bits 15:10, bottom in bits 9:0. -/
abbrev MdecCode := BitVec 16

/-- A bit string in stream order, its first bit first (00_scope.md R10). -/
abbrev Bits := List Bool

end Sys2Proof
end

