-- ==== Sys2Proof/Config.lean ====
section
/-! DEFINITION. The small named types of the spec and the open parameters of the model (00_scope.md R9,
93_implementation_defined.md section 3): opaque constants, so that nothing can be proved of a value. What the
spec constrains of a parameter is imposed where it is used (Machine/Operands.lean, Machine/CodeTable.lean). -/

namespace Sys2Proof

/-- The frame formats of 10_state.md R24, in the order of their codes 0..4. -/
inductive Format where
  | strv1 | strv2 | strv3 | iki | lain
deriving DecidableEq, Repr, Inhabited

/-- The code-table dialects of 10_state.md R24: 0 standard, 1 Lain. -/
inductive Dialect where
  | standard | lain
deriving DecidableEq, Repr, Inhabited

/-- The byte-order policies of 10_state.md R24: 0 LE16, 1 BE. -/
inductive Policy where
  | le16 | be
deriving DecidableEq, Repr, Inhabited

/-- The writer alignments of 10_state.md R30, in bytes. -/
inductive Align where
  | one | two | four
deriving DecidableEq, Repr, Inhabited

/-- LZSS_FLAG_ORDER (46_lzss.md R265): which flag bit governs the first token of a group. -/
inductive FlagOrder where
  | msbFirst | lsbFirst
deriving DecidableEq, Repr, Inhabited

/-- The meaning of a code-table entry (41_code_table.md R150): exactly one of the three. -/
inductive CodeMeaning where
  | ac (run : Nat) (level : Int)
  | esc
  | eob
deriving DecidableEq, Repr, Inhabited

/-- Where a header field stands: its first byte, its width in bytes, and whether its first byte is the most
significant (DESIGN CHOICE, log 13: fields are whole bytes). -/
structure FieldPos where
  off : Nat
  width : Nat
  bigEndian : Bool
deriving DecidableEq, Repr, Inhabited

/-- IKI_HEADER_LAYOUT (42_headers.md R171): four fields, the constant IKI_MAGIC, and the offset of the LZSS data. DESIGN
CHOICE, log 13: R171 counts IKI_LZ_OFFSET among five fields and does not say whether it is read from the buffer; here it is
a constant of the layout, `lzOffset`, and no bytes of the header hold it. -/
structure IkiLayout where
  magic : FieldPos
  width : FieldPos
  height : FieldPos
  csize : FieldPos
  magicValue : Nat
  lzOffset : Nat
deriving DecidableEq, Repr, Inhabited

/-- LAIN_HEADER_LAYOUT (42_headers.md R176): four fields and the bitstream start. -/
structure LainLayout where
  qLuma : FieldPos
  qChroma : FieldPos
  magicOrFrame : FieldPos
  version : FieldPos
  bsOffset : Nat
deriving DecidableEq, Repr, Inhabited

/-- A meaning the Lain table may bind: run 0..63, level −255..255 and not 0 (30_encoding.md R90). -/
def legalMeaning : CodeMeaning → Bool
  | .ac run level => decide (run ≤ 63) && decide (-255 ≤ level) && decide (level ≤ 255) && level != 0
  | .esc => true
  | .eob => true

/-- What R90 of 30_encoding.md and the builder (41_code_table.md R151) ask of an assignment of meanings to the 224 bit
strings: all different, an escape and an end-of-block among them, every pair in range. DESIGN CHOICE, log 35: the escape and
the end-of-block may be bound to any of the strings, as R90 says, though R86 gives VLC_ESC 6 bits and VLC_EOB 2, and R96
counts a 6-bit prefix in the Lain escape; so the length of a Lain escape token varies with the parameter. -/
def assignmentOk (f : Nat → CodeMeaning) : Bool :=
  let all := (List.range 224).map f
  decide all.Nodup && all.all legalMeaning && all.contains .esc && all.contains .eob

/-- An assignment that passes the checks: it shows only that there are such values, and nothing rests on it. -/
def someAssignment (k : Nat) : CodeMeaning :=
  if k = 222 then .eob else if k = 223 then .esc else .ac (k % 64) (k / 64 + 1)

/-- The values LAIN_AC_TABLE may take. A value that fails the checks is rejected before the model starts, as
60_exceptions.md R292 asks: it is no value of this type (log 10). -/
structure LainTable where
  meaning : Nat → CodeMeaning := someAssignment
  legal : assignmentOk meaning = true := by decide +kernel
deriving Inhabited

/-- LAIN_AC_TABLE (30_encoding.md R90): the meaning the Lain dialect binds to the bit string of each ordinal.
OPEN parameter, log 10. -/
opaque Config.lainAcTable : LainTable

/-- PAD_ALIGN(fmt) (20_memory.md R67). OPEN parameter, log 11. -/
opaque Config.padAlign : Format → Align

/-- STR_COUNT_FIELD(n) (44_encoder.md R234). OPEN parameter, log 12. -/
opaque Config.strCountField : Nat → BitVec 16

/-- IKI_HEADER_LAYOUT (42_headers.md R171). OPEN parameter, log 13. -/
opaque Config.ikiLayout : IkiLayout

/-- The rule giving IKI_BS_OFFSET (42_headers.md R171). OPEN parameter, log 13. DESIGN CHOICE, log 13: R171 does not say
what the rule depends on; here it is a function of the compressed size alone, and of no other content of the header. -/
opaque Config.ikiBsOffset : Nat → Nat

/-- LAIN_HEADER_LAYOUT (42_headers.md R176). OPEN parameter, log 14. -/
opaque Config.lainLayout : LainLayout

/-- IKI_TABLE_LAYOUT (43_decoder.md R190): for a table of n blocks, the positions of the high and the low byte of
block k's entry. OPEN parameter, log 15. -/
opaque Config.ikiEntryBytes : Nat → Nat → Nat × Nat

/-- LZSS_FLAG_ORDER (46_lzss.md R265). OPEN parameter, log 16. -/
opaque Config.lzssFlagOrder : FlagOrder

/-- Free value: the byte at a header offset that no field covers, for a frame of n codes; the spec states none
(44_encoder.md R235). DESIGN CHOICE, log 18. -/
opaque Config.headerFiller : Nat → Nat → Byte

end Sys2Proof
end

