-- ==== Sys2Proof/Syntax.lean ====
section
/-! DEFINITION. The instructions: one constructor for each row of spec/opcode_table.json
(the host commands, then the tokens with free bits, then the 224 bit strings of the code table in ordinal order).
The 26 host commands carry the immediate fields of their command word (30_encoding.md R103); their operand
records are handed over beside the word and stand in the state. The 253 tokens carry the free bits of their bit
string. A code-table row stands for its bit string, by ordinal; a dialect binds a meaning to it (R87, R90). -/

namespace Sys2Proof

/-- One constructor per row of the opcode table. -/
inductive Instr where
  -- host commands (30_encoding.md R104)
  | reset
  | brInit (pol : Policy)
  | brReadu (n : BitVec 5)
  | brReads (n : BitVec 5)
  | brPeeku (n : BitVec 5)
  | brPeeks (n : BitVec 5)
  | brSkip (n : BitVec 5)
  | brBitsread
  | brBitsrem
  | bwInit (pol : Policy) (al : BitVec 2)
  | bwWritev (n : BitVec 5)
  | bwWritestr
  | bwFinal
  | ctDecode (dia : Dialect)
  | ctEncode (dia : Dialect)
  | hdrIdentify
  | decStart (fmt : BitVec 3)
  | decNext
  | decStatus
  | encFrame (fmt : BitVec 3)
  | srchSingle (fmt : BitVec 3)
  | srchPartial (fmt : BitVec 3)
  | srchLain
  | srchIki
  | lzDecomp
  | lzComp
  -- DC tokens (30_encoding.md R91, R92)
  | dc10 (v : BitVec 10)
  | dcv3LumaS0
  | dcv3LumaS1 (d : BitVec 1)
  | dcv3LumaS2 (d : BitVec 2)
  | dcv3LumaS3 (d : BitVec 3)
  | dcv3LumaS4 (d : BitVec 4)
  | dcv3LumaS5 (d : BitVec 5)
  | dcv3LumaS6 (d : BitVec 6)
  | dcv3LumaS7 (d : BitVec 7)
  | dcv3LumaS8 (d : BitVec 8)
  | dcv3ChromaS0
  | dcv3ChromaS1 (d : BitVec 1)
  | dcv3ChromaS2 (d : BitVec 2)
  | dcv3ChromaS3 (d : BitVec 3)
  | dcv3ChromaS4 (d : BitVec 4)
  | dcv3ChromaS5 (d : BitVec 5)
  | dcv3ChromaS6 (d : BitVec 6)
  | dcv3ChromaS7 (d : BitVec 7)
  | dcv3ChromaS8 (d : BitVec 8)
  -- escape payloads (30_encoding.md R95, R96)
  | escStdPayload (run : BitVec 6) (level : BitVec 10)
  | escLainPayloadShort (run : BitVec 6) (b : BitVec 8)
  | escLainPayloadPos (run : BitVec 6) (x : BitVec 8)
  | escLainPayloadNeg (run : BitVec 6) (x : BitVec 8)
  -- padding tails (30_encoding.md R98)
  | pad10Strv2
  | pad10Strv3
  -- LZSS byte tokens (30_encoding.md R101)
  | lzFlag (f : BitVec 8)
  | lzLiteral (c : BitVec 8)
  | lzBackrefShort (len : BitVec 8) (off : BitVec 7)
  | lzBackrefLong (len : BitVec 8) (off : BitVec 15)
  -- the catalog of bit strings, ordinals 0..223: AC codes, end of block, escape (30_encoding.md R87)
  | ac_0_p1 | ac_0_n1 | ac_1_p1 | ac_1_n1 | ac_0_p2 | ac_0_n2 | ac_2_p1 | ac_2_n1 | ac_0_p3 | ac_0_n3 | ac_3_p1
  | ac_3_n1 | ac_4_p1 | ac_4_n1 | ac_1_p2 | ac_1_n2 | ac_5_p1 | ac_5_n1 | ac_6_p1 | ac_6_n1 | ac_7_p1 | ac_7_n1
  | ac_0_p4 | ac_0_n4 | ac_2_p2 | ac_2_n2 | ac_8_p1 | ac_8_n1 | ac_9_p1 | ac_9_n1 | ac_0_p5 | ac_0_n5 | ac_0_p6
  | ac_0_n6 | ac_1_p3 | ac_1_n3 | ac_3_p2 | ac_3_n2 | ac_10_p1 | ac_10_n1 | ac_11_p1 | ac_11_n1 | ac_12_p1
  | ac_12_n1 | ac_13_p1 | ac_13_n1 | ac_0_p7 | ac_0_n7 | ac_1_p4 | ac_1_n4 | ac_2_p3 | ac_2_n3 | ac_4_p2
  | ac_4_n2 | ac_5_p2 | ac_5_n2 | ac_14_p1 | ac_14_n1 | ac_15_p1 | ac_15_n1 | ac_16_p1 | ac_16_n1 | ac_0_p8
  | ac_0_n8 | ac_0_p9 | ac_0_n9 | ac_0_p10 | ac_0_n10 | ac_0_p11 | ac_0_n11 | ac_1_p5 | ac_1_n5 | ac_2_p4
  | ac_2_n4 | ac_3_p3 | ac_3_n3 | ac_4_p3 | ac_4_n3 | ac_6_p2 | ac_6_n2 | ac_7_p2 | ac_7_n2 | ac_8_p2 | ac_8_n2
  | ac_17_p1 | ac_17_n1 | ac_18_p1 | ac_18_n1 | ac_19_p1 | ac_19_n1 | ac_20_p1 | ac_20_n1 | ac_21_p1 | ac_21_n1
  | ac_0_p12 | ac_0_n12 | ac_0_p13 | ac_0_n13 | ac_0_p14 | ac_0_n14 | ac_0_p15 | ac_0_n15 | ac_1_p6 | ac_1_n6
  | ac_1_p7 | ac_1_n7 | ac_2_p5 | ac_2_n5 | ac_3_p4 | ac_3_n4 | ac_5_p3 | ac_5_n3 | ac_9_p2 | ac_9_n2
  | ac_10_p2 | ac_10_n2 | ac_22_p1 | ac_22_n1 | ac_23_p1 | ac_23_n1 | ac_24_p1 | ac_24_n1 | ac_25_p1 | ac_25_n1
  | ac_26_p1 | ac_26_n1 | ac_0_p16 | ac_0_n16 | ac_0_p17 | ac_0_n17 | ac_0_p18 | ac_0_n18 | ac_0_p19 | ac_0_n19
  | ac_0_p20 | ac_0_n20 | ac_0_p21 | ac_0_n21 | ac_0_p22 | ac_0_n22 | ac_0_p23 | ac_0_n23 | ac_0_p24 | ac_0_n24
  | ac_0_p25 | ac_0_n25 | ac_0_p26 | ac_0_n26 | ac_0_p27 | ac_0_n27 | ac_0_p28 | ac_0_n28 | ac_0_p29 | ac_0_n29
  | ac_0_p30 | ac_0_n30 | ac_0_p31 | ac_0_n31 | ac_0_p32 | ac_0_n32 | ac_0_p33 | ac_0_n33 | ac_0_p34 | ac_0_n34
  | ac_0_p35 | ac_0_n35 | ac_0_p36 | ac_0_n36 | ac_0_p37 | ac_0_n37 | ac_0_p38 | ac_0_n38 | ac_0_p39 | ac_0_n39
  | ac_0_p40 | ac_0_n40 | ac_1_p8 | ac_1_n8 | ac_1_p9 | ac_1_n9 | ac_1_p10 | ac_1_n10 | ac_1_p11 | ac_1_n11
  | ac_1_p12 | ac_1_n12 | ac_1_p13 | ac_1_n13 | ac_1_p14 | ac_1_n14 | ac_1_p15 | ac_1_n15 | ac_1_p16 | ac_1_n16
  | ac_1_p17 | ac_1_n17 | ac_1_p18 | ac_1_n18 | ac_6_p3 | ac_6_n3 | ac_11_p2 | ac_11_n2 | ac_12_p2 | ac_12_n2
  | ac_13_p2 | ac_13_n2 | ac_14_p2 | ac_14_n2 | ac_15_p2 | ac_15_n2 | ac_16_p2 | ac_16_n2 | ac_27_p1 | ac_27_n1
  | ac_28_p1 | ac_28_n1 | ac_29_p1 | ac_29_n1 | ac_30_p1 | ac_30_n1 | ac_31_p1 | ac_31_n1 | eob | esc
deriving DecidableEq, Repr

end Sys2Proof
end

