-- ==== Sys2Proof/WellFormed.lean ====
section
/-! DEFINITION. Which instruction terms are well formed: the encoding can write them (`encodable`) and no named
field holds a value 30_encoding.md R107 calls illegal (`legalFields`). A command with an illegal field still
decodes and runs: it raises ContractViolation (60_exceptions.md R287). -/

namespace Sys2Proof

/-- The term has an encoding of its own. Only the short Lain payload is constrained beyond its field widths: its
byte is neither 0x00 nor 0x80, the two extension values (30_encoding.md R96). -/
def Instr.encodable : Instr → Bool
  | .escLainPayloadShort _ b => b != 0x00#8 && b != 0x80#8
  | .reset | .brInit _ | .brReadu _ | .brReads _ | .brPeeku _ | .brPeeks _ | .brSkip _ | .brBitsread
  | .brBitsrem | .bwInit _ _ | .bwWritev _ | .bwWritestr | .bwFinal | .ctDecode _ | .ctEncode _ | .hdrIdentify
  | .decStart _ | .decNext | .decStatus | .encFrame _ | .srchSingle _ | .srchPartial _ | .srchLain | .srchIki
  | .lzDecomp | .lzComp | .ac_0_p1 | .ac_0_n1 | .ac_1_p1 | .ac_1_n1 | .ac_0_p2 | .ac_0_n2 | .ac_2_p1 | .ac_2_n1
  | .ac_0_p3 | .ac_0_n3 | .ac_3_p1 | .ac_3_n1 | .ac_4_p1 | .ac_4_n1 | .ac_1_p2 | .ac_1_n2 | .ac_5_p1 | .ac_5_n1
  | .ac_6_p1 | .ac_6_n1 | .ac_7_p1 | .ac_7_n1 | .ac_0_p4 | .ac_0_n4 | .ac_2_p2 | .ac_2_n2 | .ac_8_p1 | .ac_8_n1
  | .ac_9_p1 | .ac_9_n1 | .ac_0_p5 | .ac_0_n5 | .ac_0_p6 | .ac_0_n6 | .ac_1_p3 | .ac_1_n3 | .ac_3_p2 | .ac_3_n2
  | .ac_10_p1 | .ac_10_n1 | .ac_11_p1 | .ac_11_n1 | .ac_12_p1 | .ac_12_n1 | .ac_13_p1 | .ac_13_n1 | .ac_0_p7
  | .ac_0_n7 | .ac_1_p4 | .ac_1_n4 | .ac_2_p3 | .ac_2_n3 | .ac_4_p2 | .ac_4_n2 | .ac_5_p2 | .ac_5_n2
  | .ac_14_p1 | .ac_14_n1 | .ac_15_p1 | .ac_15_n1 | .ac_16_p1 | .ac_16_n1 | .ac_0_p8 | .ac_0_n8 | .ac_0_p9
  | .ac_0_n9 | .ac_0_p10 | .ac_0_n10 | .ac_0_p11 | .ac_0_n11 | .ac_1_p5 | .ac_1_n5 | .ac_2_p4 | .ac_2_n4
  | .ac_3_p3 | .ac_3_n3 | .ac_4_p3 | .ac_4_n3 | .ac_6_p2 | .ac_6_n2 | .ac_7_p2 | .ac_7_n2 | .ac_8_p2 | .ac_8_n2
  | .ac_17_p1 | .ac_17_n1 | .ac_18_p1 | .ac_18_n1 | .ac_19_p1 | .ac_19_n1 | .ac_20_p1 | .ac_20_n1 | .ac_21_p1
  | .ac_21_n1 | .ac_0_p12 | .ac_0_n12 | .ac_0_p13 | .ac_0_n13 | .ac_0_p14 | .ac_0_n14 | .ac_0_p15 | .ac_0_n15
  | .ac_1_p6 | .ac_1_n6 | .ac_1_p7 | .ac_1_n7 | .ac_2_p5 | .ac_2_n5 | .ac_3_p4 | .ac_3_n4 | .ac_5_p3 | .ac_5_n3
  | .ac_9_p2 | .ac_9_n2 | .ac_10_p2 | .ac_10_n2 | .ac_22_p1 | .ac_22_n1 | .ac_23_p1 | .ac_23_n1 | .ac_24_p1
  | .ac_24_n1 | .ac_25_p1 | .ac_25_n1 | .ac_26_p1 | .ac_26_n1 | .ac_0_p16 | .ac_0_n16 | .ac_0_p17 | .ac_0_n17
  | .ac_0_p18 | .ac_0_n18 | .ac_0_p19 | .ac_0_n19 | .ac_0_p20 | .ac_0_n20 | .ac_0_p21 | .ac_0_n21 | .ac_0_p22
  | .ac_0_n22 | .ac_0_p23 | .ac_0_n23 | .ac_0_p24 | .ac_0_n24 | .ac_0_p25 | .ac_0_n25 | .ac_0_p26 | .ac_0_n26
  | .ac_0_p27 | .ac_0_n27 | .ac_0_p28 | .ac_0_n28 | .ac_0_p29 | .ac_0_n29 | .ac_0_p30 | .ac_0_n30 | .ac_0_p31
  | .ac_0_n31 | .ac_0_p32 | .ac_0_n32 | .ac_0_p33 | .ac_0_n33 | .ac_0_p34 | .ac_0_n34 | .ac_0_p35 | .ac_0_n35
  | .ac_0_p36 | .ac_0_n36 | .ac_0_p37 | .ac_0_n37 | .ac_0_p38 | .ac_0_n38 | .ac_0_p39 | .ac_0_n39 | .ac_0_p40
  | .ac_0_n40 | .ac_1_p8 | .ac_1_n8 | .ac_1_p9 | .ac_1_n9 | .ac_1_p10 | .ac_1_n10 | .ac_1_p11 | .ac_1_n11
  | .ac_1_p12 | .ac_1_n12 | .ac_1_p13 | .ac_1_n13 | .ac_1_p14 | .ac_1_n14 | .ac_1_p15 | .ac_1_n15 | .ac_1_p16
  | .ac_1_n16 | .ac_1_p17 | .ac_1_n17 | .ac_1_p18 | .ac_1_n18 | .ac_6_p3 | .ac_6_n3 | .ac_11_p2 | .ac_11_n2
  | .ac_12_p2 | .ac_12_n2 | .ac_13_p2 | .ac_13_n2 | .ac_14_p2 | .ac_14_n2 | .ac_15_p2 | .ac_15_n2 | .ac_16_p2
  | .ac_16_n2 | .ac_27_p1 | .ac_27_n1 | .ac_28_p1 | .ac_28_n1 | .ac_29_p1 | .ac_29_n1 | .ac_30_p1 | .ac_30_n1
  | .ac_31_p1 | .ac_31_n1 | .eob | .esc | .dc10 _ | .dcv3LumaS0 | .dcv3LumaS1 _ | .dcv3LumaS2 _ | .dcv3LumaS3 _
  | .dcv3LumaS4 _ | .dcv3LumaS5 _ | .dcv3LumaS6 _ | .dcv3LumaS7 _ | .dcv3LumaS8 _ | .dcv3ChromaS0
  | .dcv3ChromaS1 _ | .dcv3ChromaS2 _ | .dcv3ChromaS3 _ | .dcv3ChromaS4 _ | .dcv3ChromaS5 _ | .dcv3ChromaS6 _
  | .dcv3ChromaS7 _ | .dcv3ChromaS8 _ | .escStdPayload _ _ | .escLainPayloadPos _ _ | .escLainPayloadNeg _ _
  | .pad10Strv2 | .pad10Strv3 | .lzFlag _ | .lzLiteral _ | .lzBackrefShort _ _ | .lzBackrefLong _ _ => true

/-- No named immediate field holds a value 30_encoding.md R107 lists as illegal: a bit count of 0, the reserved
alignment code, a reserved format code. -/
def Instr.legalFields : Instr → Bool
  | .brReadu n => n != 0#5
  | .brReads n => n != 0#5
  | .brPeeku n => n != 0#5
  | .brPeeks n => n != 0#5
  | .brSkip n => n != 0#5
  | .bwWritev n => n != 0#5
  | .bwInit _ al => al != 3#2
  | .decStart fmt => decide (fmt.toNat ≤ 4)
  | .encFrame fmt => decide (fmt.toNat ≤ 4)
  | .srchSingle fmt => decide (fmt.toNat ≤ 4)
  | .srchPartial fmt => decide (fmt.toNat ≤ 4)
  | .reset | .brInit _ | .brBitsread | .brBitsrem | .bwWritestr | .bwFinal | .ctDecode _ | .ctEncode _
  | .hdrIdentify | .decNext | .decStatus | .srchLain | .srchIki | .lzDecomp | .lzComp | .ac_0_p1 | .ac_0_n1
  | .ac_1_p1 | .ac_1_n1 | .ac_0_p2 | .ac_0_n2 | .ac_2_p1 | .ac_2_n1 | .ac_0_p3 | .ac_0_n3 | .ac_3_p1 | .ac_3_n1
  | .ac_4_p1 | .ac_4_n1 | .ac_1_p2 | .ac_1_n2 | .ac_5_p1 | .ac_5_n1 | .ac_6_p1 | .ac_6_n1 | .ac_7_p1 | .ac_7_n1
  | .ac_0_p4 | .ac_0_n4 | .ac_2_p2 | .ac_2_n2 | .ac_8_p1 | .ac_8_n1 | .ac_9_p1 | .ac_9_n1 | .ac_0_p5 | .ac_0_n5
  | .ac_0_p6 | .ac_0_n6 | .ac_1_p3 | .ac_1_n3 | .ac_3_p2 | .ac_3_n2 | .ac_10_p1 | .ac_10_n1 | .ac_11_p1
  | .ac_11_n1 | .ac_12_p1 | .ac_12_n1 | .ac_13_p1 | .ac_13_n1 | .ac_0_p7 | .ac_0_n7 | .ac_1_p4 | .ac_1_n4
  | .ac_2_p3 | .ac_2_n3 | .ac_4_p2 | .ac_4_n2 | .ac_5_p2 | .ac_5_n2 | .ac_14_p1 | .ac_14_n1 | .ac_15_p1
  | .ac_15_n1 | .ac_16_p1 | .ac_16_n1 | .ac_0_p8 | .ac_0_n8 | .ac_0_p9 | .ac_0_n9 | .ac_0_p10 | .ac_0_n10
  | .ac_0_p11 | .ac_0_n11 | .ac_1_p5 | .ac_1_n5 | .ac_2_p4 | .ac_2_n4 | .ac_3_p3 | .ac_3_n3 | .ac_4_p3
  | .ac_4_n3 | .ac_6_p2 | .ac_6_n2 | .ac_7_p2 | .ac_7_n2 | .ac_8_p2 | .ac_8_n2 | .ac_17_p1 | .ac_17_n1
  | .ac_18_p1 | .ac_18_n1 | .ac_19_p1 | .ac_19_n1 | .ac_20_p1 | .ac_20_n1 | .ac_21_p1 | .ac_21_n1 | .ac_0_p12
  | .ac_0_n12 | .ac_0_p13 | .ac_0_n13 | .ac_0_p14 | .ac_0_n14 | .ac_0_p15 | .ac_0_n15 | .ac_1_p6 | .ac_1_n6
  | .ac_1_p7 | .ac_1_n7 | .ac_2_p5 | .ac_2_n5 | .ac_3_p4 | .ac_3_n4 | .ac_5_p3 | .ac_5_n3 | .ac_9_p2 | .ac_9_n2
  | .ac_10_p2 | .ac_10_n2 | .ac_22_p1 | .ac_22_n1 | .ac_23_p1 | .ac_23_n1 | .ac_24_p1 | .ac_24_n1 | .ac_25_p1
  | .ac_25_n1 | .ac_26_p1 | .ac_26_n1 | .ac_0_p16 | .ac_0_n16 | .ac_0_p17 | .ac_0_n17 | .ac_0_p18 | .ac_0_n18
  | .ac_0_p19 | .ac_0_n19 | .ac_0_p20 | .ac_0_n20 | .ac_0_p21 | .ac_0_n21 | .ac_0_p22 | .ac_0_n22 | .ac_0_p23
  | .ac_0_n23 | .ac_0_p24 | .ac_0_n24 | .ac_0_p25 | .ac_0_n25 | .ac_0_p26 | .ac_0_n26 | .ac_0_p27 | .ac_0_n27
  | .ac_0_p28 | .ac_0_n28 | .ac_0_p29 | .ac_0_n29 | .ac_0_p30 | .ac_0_n30 | .ac_0_p31 | .ac_0_n31 | .ac_0_p32
  | .ac_0_n32 | .ac_0_p33 | .ac_0_n33 | .ac_0_p34 | .ac_0_n34 | .ac_0_p35 | .ac_0_n35 | .ac_0_p36 | .ac_0_n36
  | .ac_0_p37 | .ac_0_n37 | .ac_0_p38 | .ac_0_n38 | .ac_0_p39 | .ac_0_n39 | .ac_0_p40 | .ac_0_n40 | .ac_1_p8
  | .ac_1_n8 | .ac_1_p9 | .ac_1_n9 | .ac_1_p10 | .ac_1_n10 | .ac_1_p11 | .ac_1_n11 | .ac_1_p12 | .ac_1_n12
  | .ac_1_p13 | .ac_1_n13 | .ac_1_p14 | .ac_1_n14 | .ac_1_p15 | .ac_1_n15 | .ac_1_p16 | .ac_1_n16 | .ac_1_p17
  | .ac_1_n17 | .ac_1_p18 | .ac_1_n18 | .ac_6_p3 | .ac_6_n3 | .ac_11_p2 | .ac_11_n2 | .ac_12_p2 | .ac_12_n2
  | .ac_13_p2 | .ac_13_n2 | .ac_14_p2 | .ac_14_n2 | .ac_15_p2 | .ac_15_n2 | .ac_16_p2 | .ac_16_n2 | .ac_27_p1
  | .ac_27_n1 | .ac_28_p1 | .ac_28_n1 | .ac_29_p1 | .ac_29_n1 | .ac_30_p1 | .ac_30_n1 | .ac_31_p1 | .ac_31_n1
  | .eob | .esc | .dc10 _ | .dcv3LumaS0 | .dcv3LumaS1 _ | .dcv3LumaS2 _ | .dcv3LumaS3 _ | .dcv3LumaS4 _
  | .dcv3LumaS5 _ | .dcv3LumaS6 _ | .dcv3LumaS7 _ | .dcv3LumaS8 _ | .dcv3ChromaS0 | .dcv3ChromaS1 _
  | .dcv3ChromaS2 _ | .dcv3ChromaS3 _ | .dcv3ChromaS4 _ | .dcv3ChromaS5 _ | .dcv3ChromaS6 _ | .dcv3ChromaS7 _
  | .dcv3ChromaS8 _ | .escStdPayload _ _ | .escLainPayloadShort _ _ | .escLainPayloadPos _ _
  | .escLainPayloadNeg _ _ | .pad10Strv2 | .pad10Strv3 | .lzFlag _ | .lzLiteral _ | .lzBackrefShort _ _
  | .lzBackrefLong _ _ => true

/-- A well-formed instruction. -/
def Instr.wellFormed (i : Instr) : Bool := i.encodable && i.legalFields

end Sys2Proof
end

