-- ==== Sys2Proof/Decode.lean ====
section
/-! DEFINITION. Bit strings, the encoding tables, the decoder and the encoder. A command word is decoded by
30_encoding.md R103, R104, R107 and 60_exceptions.md R287; a token is decoded from a bit string at a position of the
grammar (30_encoding.md R85, R99). Both are total and reject by name. -/

namespace Sys2Proof

/-- `bits(v, n)`: the n-bit string of `v mod 2^n`, most significant bit first (00_scope.md R10). -/
def toBits : Nat → Nat → Bits
  | 0, _ => []
  | n + 1, v => v.testBit n :: toBits n v

/-- `int(s)`: the unsigned value of a bit string, its first bit most significant (00_scope.md R10). -/
def ofBits (s : Bits) : Nat := s.foldl (fun a b => 2 * a + b.toNat) 0

/-- `sext_n(v)`: the two's-complement value of the n-bit unsigned v (00_scope.md R11). -/
def sext (n v : Nat) : Int := if v < 2 ^ (n - 1) then v else (v : Int) - 2 ^ n

/-- The low n bits of an integer as an unsigned number: `v mod 2^n` (00_scope.md R11). -/
def lowBits (n : Nat) (v : Int) : Nat := (v % (2 ^ n : Int)).toNat

def Policy.ofBit (b : Bool) : Policy := if b then .be else .le16

def Dialect.ofBit (b : Bool) : Dialect := if b then .lain else .standard

/-- The policy bit as a field of w bits (10_state.md R24). -/
def Policy.bits (w : Nat) : Policy → BitVec w
  | .le16 => 0#w
  | .be => 1#w

/-- The dialect bit as a field of w bits (10_state.md R24). -/
def Dialect.bits (w : Nat) : Dialect → BitVec w
  | .standard => 0#w
  | .lain => 1#w

/-- The codes of the formats (10_state.md R24). -/
def Format.code : Format → Nat
  | .strv1 => 0
  | .strv2 => 1
  | .strv3 => 2
  | .iki => 3
  | .lain => 4

/-- The format of a 3-bit code; 5, 6 and 7 are reserved (10_state.md R24). -/
def Format.ofCode (c : BitVec 3) : Option Format :=
  match c.toNat with
  | 0 => some .strv1
  | 1 => some .strv2
  | 2 => some .strv3
  | 3 => some .iki
  | 4 => some .lain
  | _ => none

/-- A row of the standard table: length and value of its code without the sign bit, run, absolute level. -/
structure AcRow where
  len : Nat
  code : Nat
  run : Nat
  level : Nat
deriving DecidableEq, Repr

/-- Rows 0..30 of 30_encoding.md R87: length and value of the code without its sign bit, run, absolute level. -/
def acRowsA : List AcRow :=
  [⟨2, 0b11, 0, 1⟩,
   ⟨3, 0b011, 1, 1⟩,
   ⟨4, 0b0100, 0, 2⟩,
   ⟨4, 0b0101, 2, 1⟩,
   ⟨5, 0b00101, 0, 3⟩,
   ⟨5, 0b00111, 3, 1⟩,
   ⟨5, 0b00110, 4, 1⟩,
   ⟨6, 0b000110, 1, 2⟩,
   ⟨6, 0b000111, 5, 1⟩,
   ⟨6, 0b000101, 6, 1⟩,
   ⟨6, 0b000100, 7, 1⟩,
   ⟨7, 0b0000110, 0, 4⟩,
   ⟨7, 0b0000100, 2, 2⟩,
   ⟨7, 0b0000111, 8, 1⟩,
   ⟨7, 0b0000101, 9, 1⟩,
   ⟨8, 0b00100110, 0, 5⟩,
   ⟨8, 0b00100001, 0, 6⟩,
   ⟨8, 0b00100101, 1, 3⟩,
   ⟨8, 0b00100100, 3, 2⟩,
   ⟨8, 0b00100111, 10, 1⟩,
   ⟨8, 0b00100011, 11, 1⟩,
   ⟨8, 0b00100010, 12, 1⟩,
   ⟨8, 0b00100000, 13, 1⟩,
   ⟨10, 0b0000001010, 0, 7⟩,
   ⟨10, 0b0000001100, 1, 4⟩,
   ⟨10, 0b0000001011, 2, 3⟩,
   ⟨10, 0b0000001111, 4, 2⟩,
   ⟨10, 0b0000001001, 5, 2⟩,
   ⟨10, 0b0000001110, 14, 1⟩,
   ⟨10, 0b0000001101, 15, 1⟩,
   ⟨10, 0b0000001000, 16, 1⟩]

/-- Rows 31..62 of 30_encoding.md R87: length and value of the code without its sign bit, run, absolute level. -/
def acRowsB : List AcRow :=
  [⟨12, 0b000000011101, 0, 8⟩,
   ⟨12, 0b000000011000, 0, 9⟩,
   ⟨12, 0b000000010011, 0, 10⟩,
   ⟨12, 0b000000010000, 0, 11⟩,
   ⟨12, 0b000000011011, 1, 5⟩,
   ⟨12, 0b000000010100, 2, 4⟩,
   ⟨12, 0b000000011100, 3, 3⟩,
   ⟨12, 0b000000010010, 4, 3⟩,
   ⟨12, 0b000000011110, 6, 2⟩,
   ⟨12, 0b000000010101, 7, 2⟩,
   ⟨12, 0b000000010001, 8, 2⟩,
   ⟨12, 0b000000011111, 17, 1⟩,
   ⟨12, 0b000000011010, 18, 1⟩,
   ⟨12, 0b000000011001, 19, 1⟩,
   ⟨12, 0b000000010111, 20, 1⟩,
   ⟨12, 0b000000010110, 21, 1⟩,
   ⟨13, 0b0000000011010, 0, 12⟩,
   ⟨13, 0b0000000011001, 0, 13⟩,
   ⟨13, 0b0000000011000, 0, 14⟩,
   ⟨13, 0b0000000010111, 0, 15⟩,
   ⟨13, 0b0000000010110, 1, 6⟩,
   ⟨13, 0b0000000010101, 1, 7⟩,
   ⟨13, 0b0000000010100, 2, 5⟩,
   ⟨13, 0b0000000010011, 3, 4⟩,
   ⟨13, 0b0000000010010, 5, 3⟩,
   ⟨13, 0b0000000010001, 9, 2⟩,
   ⟨13, 0b0000000010000, 10, 2⟩,
   ⟨13, 0b0000000011111, 22, 1⟩,
   ⟨13, 0b0000000011110, 23, 1⟩,
   ⟨13, 0b0000000011101, 24, 1⟩,
   ⟨13, 0b0000000011100, 25, 1⟩,
   ⟨13, 0b0000000011011, 26, 1⟩]

/-- Rows 63..94 of 30_encoding.md R87: length and value of the code without its sign bit, run, absolute level. -/
def acRowsC : List AcRow :=
  [⟨14, 0b00000000011111, 0, 16⟩,
   ⟨14, 0b00000000011110, 0, 17⟩,
   ⟨14, 0b00000000011101, 0, 18⟩,
   ⟨14, 0b00000000011100, 0, 19⟩,
   ⟨14, 0b00000000011011, 0, 20⟩,
   ⟨14, 0b00000000011010, 0, 21⟩,
   ⟨14, 0b00000000011001, 0, 22⟩,
   ⟨14, 0b00000000011000, 0, 23⟩,
   ⟨14, 0b00000000010111, 0, 24⟩,
   ⟨14, 0b00000000010110, 0, 25⟩,
   ⟨14, 0b00000000010101, 0, 26⟩,
   ⟨14, 0b00000000010100, 0, 27⟩,
   ⟨14, 0b00000000010011, 0, 28⟩,
   ⟨14, 0b00000000010010, 0, 29⟩,
   ⟨14, 0b00000000010001, 0, 30⟩,
   ⟨14, 0b00000000010000, 0, 31⟩,
   ⟨15, 0b000000000011000, 0, 32⟩,
   ⟨15, 0b000000000010111, 0, 33⟩,
   ⟨15, 0b000000000010110, 0, 34⟩,
   ⟨15, 0b000000000010101, 0, 35⟩,
   ⟨15, 0b000000000010100, 0, 36⟩,
   ⟨15, 0b000000000010011, 0, 37⟩,
   ⟨15, 0b000000000010010, 0, 38⟩,
   ⟨15, 0b000000000010001, 0, 39⟩,
   ⟨15, 0b000000000010000, 0, 40⟩,
   ⟨15, 0b000000000011111, 1, 8⟩,
   ⟨15, 0b000000000011110, 1, 9⟩,
   ⟨15, 0b000000000011101, 1, 10⟩,
   ⟨15, 0b000000000011100, 1, 11⟩,
   ⟨15, 0b000000000011011, 1, 12⟩,
   ⟨15, 0b000000000011010, 1, 13⟩,
   ⟨15, 0b000000000011001, 1, 14⟩]

/-- Rows 95..110 of 30_encoding.md R87: length and value of the code without its sign bit, run, absolute level. -/
def acRowsD : List AcRow :=
  [⟨16, 0b0000000000010011, 1, 15⟩,
   ⟨16, 0b0000000000010010, 1, 16⟩,
   ⟨16, 0b0000000000010001, 1, 17⟩,
   ⟨16, 0b0000000000010000, 1, 18⟩,
   ⟨16, 0b0000000000010100, 6, 3⟩,
   ⟨16, 0b0000000000011010, 11, 2⟩,
   ⟨16, 0b0000000000011001, 12, 2⟩,
   ⟨16, 0b0000000000011000, 13, 2⟩,
   ⟨16, 0b0000000000010111, 14, 2⟩,
   ⟨16, 0b0000000000010110, 15, 2⟩,
   ⟨16, 0b0000000000010101, 16, 2⟩,
   ⟨16, 0b0000000000011111, 27, 1⟩,
   ⟨16, 0b0000000000011110, 28, 1⟩,
   ⟨16, 0b0000000000011101, 29, 1⟩,
   ⟨16, 0b0000000000011100, 30, 1⟩,
   ⟨16, 0b0000000000011011, 31, 1⟩]

/-- The 111 rows of 30_encoding.md R87. -/
def acRows : List AcRow := acRowsA ++ acRowsB ++ acRowsC ++ acRowsD

/-- A code-table entry: ordinal, bit string, meaning (41_code_table.md R150). -/
structure Entry where
  ordinal : Nat
  bits : Bits
  meaning : CodeMeaning
deriving DecidableEq, Repr

/-- Row i of the table has the ordinals 2i (sign bit 0, positive level) and 2i + 1 (30_encoding.md R87). -/
def acEntries : Nat → List AcRow → List Entry
  | _, [] => []
  | i, r :: rs =>
    ⟨2 * i, toBits r.len r.code ++ [false], .ac r.run r.level⟩ ::
    ⟨2 * i + 1, toBits r.len r.code ++ [true], .ac r.run (-(r.level : Int))⟩ :: acEntries (i + 1) rs

/-- CT_STD: the 224 entries in ordinal order (30_encoding.md R87). Its bit strings are the catalog that both
dialects share (R90). -/
def catalog : List Entry :=
  acEntries 0 acRows ++ [⟨222, [true, false], .eob⟩, ⟨223, [false, false, false, false, false, true], .esc⟩]

/-- The bit string of an ordinal. -/
def codeBits (k : Nat) : Bits := ((catalog[k]?).map Entry.bits).getD []

/-- The standard meaning of an ordinal. -/
def stdMeaning (k : Nat) : CodeMeaning := ((catalog[k]?).map Entry.meaning).getD .eob

/-- The entry of the catalog whose bit string opens the given bits (30_encoding.md R89). -/
def catalogMatch (bits : Bits) : Option Entry := catalog.find? fun e => e.bits.isPrefixOf bits

/-- The instructions of the 224 bit strings, in ordinal order. -/
def codeInstrs : List Instr :=
  [.ac_0_p1, .ac_0_n1, .ac_1_p1, .ac_1_n1, .ac_0_p2, .ac_0_n2, .ac_2_p1, .ac_2_n1, .ac_0_p3, .ac_0_n3,
   .ac_3_p1, .ac_3_n1, .ac_4_p1, .ac_4_n1, .ac_1_p2, .ac_1_n2, .ac_5_p1, .ac_5_n1, .ac_6_p1, .ac_6_n1,
   .ac_7_p1, .ac_7_n1, .ac_0_p4, .ac_0_n4, .ac_2_p2, .ac_2_n2, .ac_8_p1, .ac_8_n1, .ac_9_p1, .ac_9_n1,
   .ac_0_p5, .ac_0_n5, .ac_0_p6, .ac_0_n6, .ac_1_p3, .ac_1_n3, .ac_3_p2, .ac_3_n2, .ac_10_p1, .ac_10_n1,
   .ac_11_p1, .ac_11_n1, .ac_12_p1, .ac_12_n1, .ac_13_p1, .ac_13_n1, .ac_0_p7, .ac_0_n7, .ac_1_p4, .ac_1_n4,
   .ac_2_p3, .ac_2_n3, .ac_4_p2, .ac_4_n2, .ac_5_p2, .ac_5_n2, .ac_14_p1, .ac_14_n1, .ac_15_p1, .ac_15_n1,
   .ac_16_p1, .ac_16_n1, .ac_0_p8, .ac_0_n8, .ac_0_p9, .ac_0_n9, .ac_0_p10, .ac_0_n10, .ac_0_p11, .ac_0_n11,
   .ac_1_p5, .ac_1_n5, .ac_2_p4, .ac_2_n4, .ac_3_p3, .ac_3_n3, .ac_4_p3, .ac_4_n3, .ac_6_p2, .ac_6_n2,
   .ac_7_p2, .ac_7_n2, .ac_8_p2, .ac_8_n2, .ac_17_p1, .ac_17_n1, .ac_18_p1, .ac_18_n1, .ac_19_p1, .ac_19_n1,
   .ac_20_p1, .ac_20_n1, .ac_21_p1, .ac_21_n1, .ac_0_p12, .ac_0_n12, .ac_0_p13, .ac_0_n13, .ac_0_p14,
   .ac_0_n14, .ac_0_p15, .ac_0_n15, .ac_1_p6, .ac_1_n6, .ac_1_p7, .ac_1_n7, .ac_2_p5, .ac_2_n5, .ac_3_p4,
   .ac_3_n4, .ac_5_p3, .ac_5_n3, .ac_9_p2, .ac_9_n2, .ac_10_p2, .ac_10_n2, .ac_22_p1, .ac_22_n1, .ac_23_p1,
   .ac_23_n1, .ac_24_p1, .ac_24_n1, .ac_25_p1, .ac_25_n1, .ac_26_p1, .ac_26_n1, .ac_0_p16, .ac_0_n16,
   .ac_0_p17, .ac_0_n17, .ac_0_p18, .ac_0_n18, .ac_0_p19, .ac_0_n19, .ac_0_p20, .ac_0_n20, .ac_0_p21,
   .ac_0_n21, .ac_0_p22, .ac_0_n22, .ac_0_p23, .ac_0_n23, .ac_0_p24, .ac_0_n24, .ac_0_p25, .ac_0_n25,
   .ac_0_p26, .ac_0_n26, .ac_0_p27, .ac_0_n27, .ac_0_p28, .ac_0_n28, .ac_0_p29, .ac_0_n29, .ac_0_p30,
   .ac_0_n30, .ac_0_p31, .ac_0_n31, .ac_0_p32, .ac_0_n32, .ac_0_p33, .ac_0_n33, .ac_0_p34, .ac_0_n34,
   .ac_0_p35, .ac_0_n35, .ac_0_p36, .ac_0_n36, .ac_0_p37, .ac_0_n37, .ac_0_p38, .ac_0_n38, .ac_0_p39,
   .ac_0_n39, .ac_0_p40, .ac_0_n40, .ac_1_p8, .ac_1_n8, .ac_1_p9, .ac_1_n9, .ac_1_p10, .ac_1_n10, .ac_1_p11,
   .ac_1_n11, .ac_1_p12, .ac_1_n12, .ac_1_p13, .ac_1_n13, .ac_1_p14, .ac_1_n14, .ac_1_p15, .ac_1_n15,
   .ac_1_p16, .ac_1_n16, .ac_1_p17, .ac_1_n17, .ac_1_p18, .ac_1_n18, .ac_6_p3, .ac_6_n3, .ac_11_p2, .ac_11_n2,
   .ac_12_p2, .ac_12_n2, .ac_13_p2, .ac_13_n2, .ac_14_p2, .ac_14_n2, .ac_15_p2, .ac_15_n2, .ac_16_p2,
   .ac_16_n2, .ac_27_p1, .ac_27_n1, .ac_28_p1, .ac_28_n1, .ac_29_p1, .ac_29_n1, .ac_30_p1, .ac_30_n1,
   .ac_31_p1, .ac_31_n1, .eob, .esc]

/-- DCVLC_LUMA and DCVLC_CHROMA: the size codes 0..8 (30_encoding.md R92). -/
def dcCodes (luma : Bool) : List Bits :=
  if luma then
    [toBits 3 0b100, toBits 2 0b00, toBits 2 0b01, toBits 3 0b101, toBits 3 0b110, toBits 4 0b1110,
     toBits 5 0b11110, toBits 6 0b111110, toBits 7 0b1111110]
  else
    [toBits 2 0b00, toBits 2 0b01, toBits 2 0b10, toBits 3 0b110, toBits 4 0b1110, toBits 5 0b11110,
     toBits 6 0b111110, toBits 7 0b1111110, toBits 8 0b11111110]

/-- The code of one DC size. -/
def dcCode (luma : Bool) (size : Nat) : Bits := (dcCodes luma).getD size []

/-- The size whose code opens the given bits, or none (30_encoding.md R92, R106). -/
def dcSize (luma : Bool) (bits : Bits) : Option Nat := (dcCodes luma).findIdx? fun c => c.isPrefixOf bits

/-- The STRv2 padding tail (30_encoding.md R98). -/
def padTailStrv2 : Bits := toBits 10 0b0111111111

/-- The STRv3 padding tail (30_encoding.md R98). -/
def padTailStrv3 : Bits := toBits 10 0b1111111111

/-- Why a word or a bit string is no instruction. -/
inductive DecodeError where
  /-- An `op` that is not in the opcode map (30_encoding.md R107). -/
  | badOpcode
  /-- A nonzero immediate bit the command does not name (30_encoding.md R107). -/
  | badImm
  /-- No code of the catalog opens the bits (30_encoding.md R106). -/
  | noTableEntry
  /-- No DC size code opens the bits (30_encoding.md R106). -/
  | noDcSize
  /-- The bits are not the format's padding tail (30_encoding.md R98). -/
  | notPadding
  /-- The bits end inside the token. -/
  | truncated
deriving DecidableEq, Repr

/-- A decoded instruction with the bits after it, or the reason there is none. -/
inductive Decoded where
  | ok (i : Instr) (rest : Bits)
  | reject (why : DecodeError)
deriving DecidableEq, Repr

/-- A decoded command word, or the reason there is none. -/
inductive Dispatched where
  | run (i : Instr)
  | reject (why : DecodeError)
deriving DecidableEq, Repr

/-- A command whose immediate may be nonzero only in the bits `free` (30_encoding.md R103, R107). -/
def named (imm free : BitVec 8) (i : Instr) : Dispatched :=
  if imm &&& ~~~free = 0#8 then .run i else .reject .badImm

/-- The command of a 16-bit word: the opcode first, then the immediate (60_exceptions.md R287). -/
def decodeCommand (w : BitVec 16) : Dispatched :=
  let op := w.extractLsb' 8 8
  let imm := w.extractLsb' 0 8
  if op = 0x01#8 then named imm 0x00#8 .reset
  else if op = 0x10#8 then named imm 0x01#8 (.brInit (Policy.ofBit (imm.getLsbD 0)))
  else if op = 0x11#8 then named imm 0x1f#8 (.brReadu (imm.extractLsb' 0 5))
  else if op = 0x12#8 then named imm 0x1f#8 (.brReads (imm.extractLsb' 0 5))
  else if op = 0x13#8 then named imm 0x1f#8 (.brPeeku (imm.extractLsb' 0 5))
  else if op = 0x14#8 then named imm 0x1f#8 (.brPeeks (imm.extractLsb' 0 5))
  else if op = 0x15#8 then named imm 0x1f#8 (.brSkip (imm.extractLsb' 0 5))
  else if op = 0x16#8 then named imm 0x00#8 .brBitsread
  else if op = 0x17#8 then named imm 0x00#8 .brBitsrem
  else if op = 0x20#8 then named imm 0x07#8 (.bwInit (Policy.ofBit (imm.getLsbD 0)) (imm.extractLsb' 1 2))
  else if op = 0x21#8 then named imm 0x1f#8 (.bwWritev (imm.extractLsb' 0 5))
  else if op = 0x22#8 then named imm 0x00#8 .bwWritestr
  else if op = 0x23#8 then named imm 0x00#8 .bwFinal
  else if op = 0x30#8 then named imm 0x01#8 (.ctDecode (Dialect.ofBit (imm.getLsbD 0)))
  else if op = 0x31#8 then named imm 0x01#8 (.ctEncode (Dialect.ofBit (imm.getLsbD 0)))
  else if op = 0x40#8 then named imm 0x00#8 .hdrIdentify
  else if op = 0x50#8 then named imm 0x07#8 (.decStart (imm.extractLsb' 0 3))
  else if op = 0x51#8 then named imm 0x00#8 .decNext
  else if op = 0x52#8 then named imm 0x00#8 .decStatus
  else if op = 0x60#8 then named imm 0x07#8 (.encFrame (imm.extractLsb' 0 3))
  else if op = 0x70#8 then named imm 0x07#8 (.srchSingle (imm.extractLsb' 0 3))
  else if op = 0x71#8 then named imm 0x07#8 (.srchPartial (imm.extractLsb' 0 3))
  else if op = 0x72#8 then named imm 0x00#8 .srchLain
  else if op = 0x73#8 then named imm 0x00#8 .srchIki
  else if op = 0x80#8 then named imm 0x00#8 .lzDecomp
  else if op = 0x81#8 then named imm 0x00#8 .lzComp
  else .reject .badOpcode

/-- Where in the command stream, the bitstream or the LZSS stream an instruction is read (30_encoding.md R85, R86):
the position decides which tokens can stand there. -/
inductive Position where
  | command | code | dcTen | dcLuma | dcChroma | escStd | escLain | padStrv2 | padStrv3
  | lzFlag | lzLiteral | lzBackref
deriving DecidableEq, Repr

/-- Reads a field of w bits and goes on with the bits after it. -/
def withField (w : Nat) (bits : Bits) (k : BitVec w → Bits → Decoded) : Decoded :=
  if w ≤ bits.length then k (BitVec.ofNat w (ofBits (bits.take w))) (bits.drop w) else .reject .truncated

/-- The DC_V3 token of a luma block with size code `size` and the bits after it (30_encoding.md R92). -/
def dcTokenLuma (size : Nat) (bits : Bits) : Decoded :=
  match size with
  | 0 => .ok .dcv3LumaS0 bits
  | 1 => withField 1 bits fun d rest => .ok (.dcv3LumaS1 d) rest
  | 2 => withField 2 bits fun d rest => .ok (.dcv3LumaS2 d) rest
  | 3 => withField 3 bits fun d rest => .ok (.dcv3LumaS3 d) rest
  | 4 => withField 4 bits fun d rest => .ok (.dcv3LumaS4 d) rest
  | 5 => withField 5 bits fun d rest => .ok (.dcv3LumaS5 d) rest
  | 6 => withField 6 bits fun d rest => .ok (.dcv3LumaS6 d) rest
  | 7 => withField 7 bits fun d rest => .ok (.dcv3LumaS7 d) rest
  | 8 => withField 8 bits fun d rest => .ok (.dcv3LumaS8 d) rest
  | _ => .reject .noDcSize

/-- The DC_V3 token of a chroma block with size code `size` and the bits after it (30_encoding.md R92). -/
def dcTokenChroma (size : Nat) (bits : Bits) : Decoded :=
  match size with
  | 0 => .ok .dcv3ChromaS0 bits
  | 1 => withField 1 bits fun d rest => .ok (.dcv3ChromaS1 d) rest
  | 2 => withField 2 bits fun d rest => .ok (.dcv3ChromaS2 d) rest
  | 3 => withField 3 bits fun d rest => .ok (.dcv3ChromaS3 d) rest
  | 4 => withField 4 bits fun d rest => .ok (.dcv3ChromaS4 d) rest
  | 5 => withField 5 bits fun d rest => .ok (.dcv3ChromaS5 d) rest
  | 6 => withField 6 bits fun d rest => .ok (.dcv3ChromaS6 d) rest
  | 7 => withField 7 bits fun d rest => .ok (.dcv3ChromaS7 d) rest
  | 8 => withField 8 bits fun d rest => .ok (.dcv3ChromaS8 d) rest
  | _ => .reject .noDcSize

/-- The ESC_LAIN payload after its run (30_encoding.md R96). -/
def lainPayload (run : BitVec 6) (bits : Bits) : Decoded :=
  withField 8 bits fun b rest =>
    if b = 0x00#8 then withField 8 rest fun x rest' => .ok (.escLainPayloadPos run x) rest'
    else if b = 0x80#8 then withField 8 rest fun x rest' => .ok (.escLainPayloadNeg run x) rest'
    else .ok (.escLainPayloadShort run b) rest

/-- A fixed tail. -/
def fixedTail (tail : Bits) (i : Instr) (bits : Bits) : Decoded :=
  if bits.length < tail.length then .reject .truncated
  else if bits.take tail.length = tail then .ok i (bits.drop tail.length)
  else .reject .notPadding

/-- The LZSS back-reference tokens (30_encoding.md R101): a first offset byte below 0x80 is the whole offset. -/
def backrefToken (len : BitVec 8) (bits : Bits) : Decoded :=
  match bits with
  | [] => .reject .truncated
  | false :: rest => withField 7 rest fun off rest' => .ok (.lzBackrefShort len off) rest'
  | true :: rest => withField 15 rest fun off rest' => .ok (.lzBackrefLong len off) rest'

/-- The instruction at the head of a bit string, read at a position of the grammar. -/
def decodeAt (p : Position) (bits : Bits) : Decoded :=
  match p with
  | .command => withField 16 bits fun w rest =>
      match decodeCommand w with
      | .run i => .ok i rest
      | .reject e => .reject e
  | .code =>
      match catalogMatch bits with
      | none => .reject .noTableEntry
      | some e =>
        match codeInstrs[e.ordinal]? with
        | some i => .ok i (bits.drop e.bits.length)
        | none => .reject .noTableEntry
  | .dcTen => withField 10 bits fun v rest => .ok (.dc10 v) rest
  | .dcLuma =>
      match dcSize true bits with
      | none => .reject .noDcSize
      | some size => dcTokenLuma size (bits.drop (dcCode true size).length)
  | .dcChroma =>
      match dcSize false bits with
      | none => .reject .noDcSize
      | some size => dcTokenChroma size (bits.drop (dcCode false size).length)
  | .escStd => withField 6 bits fun run rest => withField 10 rest fun level rest' => .ok (.escStdPayload run level) rest'
  | .escLain => withField 6 bits fun run rest => lainPayload run rest
  | .padStrv2 => fixedTail padTailStrv2 .pad10Strv2 bits
  | .padStrv3 => fixedTail padTailStrv3 .pad10Strv3 bits
  | .lzFlag => withField 8 bits fun f rest => .ok (.lzFlag f) rest
  | .lzLiteral => withField 8 bits fun c rest => .ok (.lzLiteral c) rest
  | .lzBackref => withField 8 bits fun len rest => backrefToken len rest

/-- The bits of a command word (30_encoding.md R103). -/
def commandBits (op imm : BitVec 8) : Bits := toBits 16 (op ++ imm).toNat

/-- The position an instruction is read at (30_encoding.md R86). -/
def Instr.position : Instr → Position
  | .reset | .brInit _ | .brReadu _ | .brReads _ | .brPeeku _ | .brPeeks _ | .brSkip _ | .brBitsread
  | .brBitsrem | .bwInit _ _ | .bwWritev _ | .bwWritestr | .bwFinal | .ctDecode _ | .ctEncode _ | .hdrIdentify
  | .decStart _ | .decNext | .decStatus | .encFrame _ | .srchSingle _ | .srchPartial _ | .srchLain | .srchIki
  | .lzDecomp | .lzComp => .command
  | .ac_0_p1 | .ac_0_n1 | .ac_1_p1 | .ac_1_n1 | .ac_0_p2 | .ac_0_n2 | .ac_2_p1 | .ac_2_n1 | .ac_0_p3 | .ac_0_n3
  | .ac_3_p1 | .ac_3_n1 | .ac_4_p1 | .ac_4_n1 | .ac_1_p2 | .ac_1_n2 | .ac_5_p1 | .ac_5_n1 | .ac_6_p1 | .ac_6_n1
  | .ac_7_p1 | .ac_7_n1 | .ac_0_p4 | .ac_0_n4 | .ac_2_p2 | .ac_2_n2 | .ac_8_p1 | .ac_8_n1 | .ac_9_p1 | .ac_9_n1
  | .ac_0_p5 | .ac_0_n5 | .ac_0_p6 | .ac_0_n6 | .ac_1_p3 | .ac_1_n3 | .ac_3_p2 | .ac_3_n2 | .ac_10_p1
  | .ac_10_n1 | .ac_11_p1 | .ac_11_n1 | .ac_12_p1 | .ac_12_n1 | .ac_13_p1 | .ac_13_n1 | .ac_0_p7 | .ac_0_n7
  | .ac_1_p4 | .ac_1_n4 | .ac_2_p3 | .ac_2_n3 | .ac_4_p2 | .ac_4_n2 | .ac_5_p2 | .ac_5_n2 | .ac_14_p1
  | .ac_14_n1 | .ac_15_p1 | .ac_15_n1 | .ac_16_p1 | .ac_16_n1 | .ac_0_p8 | .ac_0_n8 | .ac_0_p9 | .ac_0_n9
  | .ac_0_p10 | .ac_0_n10 | .ac_0_p11 | .ac_0_n11 | .ac_1_p5 | .ac_1_n5 | .ac_2_p4 | .ac_2_n4 | .ac_3_p3
  | .ac_3_n3 | .ac_4_p3 | .ac_4_n3 | .ac_6_p2 | .ac_6_n2 | .ac_7_p2 | .ac_7_n2 | .ac_8_p2 | .ac_8_n2
  | .ac_17_p1 | .ac_17_n1 | .ac_18_p1 | .ac_18_n1 | .ac_19_p1 | .ac_19_n1 | .ac_20_p1 | .ac_20_n1 | .ac_21_p1
  | .ac_21_n1 | .ac_0_p12 | .ac_0_n12 | .ac_0_p13 | .ac_0_n13 | .ac_0_p14 | .ac_0_n14 | .ac_0_p15 | .ac_0_n15
  | .ac_1_p6 | .ac_1_n6 | .ac_1_p7 | .ac_1_n7 | .ac_2_p5 | .ac_2_n5 | .ac_3_p4 | .ac_3_n4 | .ac_5_p3 | .ac_5_n3
  | .ac_9_p2 | .ac_9_n2 | .ac_10_p2 | .ac_10_n2 | .ac_22_p1 | .ac_22_n1 | .ac_23_p1 | .ac_23_n1 | .ac_24_p1
  | .ac_24_n1 | .ac_25_p1 | .ac_25_n1 | .ac_26_p1 | .ac_26_n1 | .ac_0_p16 | .ac_0_n16 | .ac_0_p17 | .ac_0_n17
  | .ac_0_p18 | .ac_0_n18 | .ac_0_p19 | .ac_0_n19 | .ac_0_p20 | .ac_0_n20 | .ac_0_p21 | .ac_0_n21 | .ac_0_p22
  | .ac_0_n22 | .ac_0_p23 | .ac_0_n23 | .ac_0_p24 | .ac_0_n24 | .ac_0_p25 | .ac_0_n25 | .ac_0_p26 | .ac_0_n26
  | .ac_0_p27 | .ac_0_n27 | .ac_0_p28 | .ac_0_n28 | .ac_0_p29 | .ac_0_n29 | .ac_0_p30 | .ac_0_n30 | .ac_0_p31
  | .ac_0_n31 | .ac_0_p32 | .ac_0_n32 | .ac_0_p33 | .ac_0_n33 | .ac_0_p34 | .ac_0_n34 | .ac_0_p35 | .ac_0_n35
  | .ac_0_p36 | .ac_0_n36 | .ac_0_p37 | .ac_0_n37 | .ac_0_p38 | .ac_0_n38 | .ac_0_p39 | .ac_0_n39 | .ac_0_p40
  | .ac_0_n40 | .ac_1_p8 | .ac_1_n8 | .ac_1_p9 | .ac_1_n9 | .ac_1_p10 | .ac_1_n10 | .ac_1_p11 | .ac_1_n11
  | .ac_1_p12 | .ac_1_n12 | .ac_1_p13 | .ac_1_n13 | .ac_1_p14 | .ac_1_n14 | .ac_1_p15 | .ac_1_n15 | .ac_1_p16
  | .ac_1_n16 | .ac_1_p17 | .ac_1_n17 | .ac_1_p18 | .ac_1_n18 | .ac_6_p3 | .ac_6_n3 | .ac_11_p2 | .ac_11_n2
  | .ac_12_p2 | .ac_12_n2 | .ac_13_p2 | .ac_13_n2 | .ac_14_p2 | .ac_14_n2 | .ac_15_p2 | .ac_15_n2 | .ac_16_p2
  | .ac_16_n2 | .ac_27_p1 | .ac_27_n1 | .ac_28_p1 | .ac_28_n1 | .ac_29_p1 | .ac_29_n1 | .ac_30_p1 | .ac_30_n1
  | .ac_31_p1 | .ac_31_n1 | .eob | .esc => .code
  | .dc10 _ => .dcTen
  | .dcv3LumaS0 | .dcv3LumaS1 _ | .dcv3LumaS2 _ | .dcv3LumaS3 _ | .dcv3LumaS4 _ | .dcv3LumaS5 _ | .dcv3LumaS6 _
  | .dcv3LumaS7 _ | .dcv3LumaS8 _ => .dcLuma
  | .dcv3ChromaS0 | .dcv3ChromaS1 _ | .dcv3ChromaS2 _ | .dcv3ChromaS3 _ | .dcv3ChromaS4 _ | .dcv3ChromaS5 _
  | .dcv3ChromaS6 _ | .dcv3ChromaS7 _ | .dcv3ChromaS8 _ => .dcChroma
  | .escStdPayload _ _ => .escStd
  | .escLainPayloadShort _ _ | .escLainPayloadPos _ _ | .escLainPayloadNeg _ _ => .escLain
  | .pad10Strv2 => .padStrv2
  | .pad10Strv3 => .padStrv3
  | .lzFlag _ => .lzFlag
  | .lzLiteral _ => .lzLiteral
  | .lzBackrefShort _ _ | .lzBackrefLong _ _ => .lzBackref

/-- The ordinal of a code-table bit string (30_encoding.md R87); no other instruction has one. -/
def Instr.ordinal : Instr → Option Nat
  | .ac_0_p1 => some 0
  | .ac_0_n1 => some 1
  | .ac_1_p1 => some 2
  | .ac_1_n1 => some 3
  | .ac_0_p2 => some 4
  | .ac_0_n2 => some 5
  | .ac_2_p1 => some 6
  | .ac_2_n1 => some 7
  | .ac_0_p3 => some 8
  | .ac_0_n3 => some 9
  | .ac_3_p1 => some 10
  | .ac_3_n1 => some 11
  | .ac_4_p1 => some 12
  | .ac_4_n1 => some 13
  | .ac_1_p2 => some 14
  | .ac_1_n2 => some 15
  | .ac_5_p1 => some 16
  | .ac_5_n1 => some 17
  | .ac_6_p1 => some 18
  | .ac_6_n1 => some 19
  | .ac_7_p1 => some 20
  | .ac_7_n1 => some 21
  | .ac_0_p4 => some 22
  | .ac_0_n4 => some 23
  | .ac_2_p2 => some 24
  | .ac_2_n2 => some 25
  | .ac_8_p1 => some 26
  | .ac_8_n1 => some 27
  | .ac_9_p1 => some 28
  | .ac_9_n1 => some 29
  | .ac_0_p5 => some 30
  | .ac_0_n5 => some 31
  | .ac_0_p6 => some 32
  | .ac_0_n6 => some 33
  | .ac_1_p3 => some 34
  | .ac_1_n3 => some 35
  | .ac_3_p2 => some 36
  | .ac_3_n2 => some 37
  | .ac_10_p1 => some 38
  | .ac_10_n1 => some 39
  | .ac_11_p1 => some 40
  | .ac_11_n1 => some 41
  | .ac_12_p1 => some 42
  | .ac_12_n1 => some 43
  | .ac_13_p1 => some 44
  | .ac_13_n1 => some 45
  | .ac_0_p7 => some 46
  | .ac_0_n7 => some 47
  | .ac_1_p4 => some 48
  | .ac_1_n4 => some 49
  | .ac_2_p3 => some 50
  | .ac_2_n3 => some 51
  | .ac_4_p2 => some 52
  | .ac_4_n2 => some 53
  | .ac_5_p2 => some 54
  | .ac_5_n2 => some 55
  | .ac_14_p1 => some 56
  | .ac_14_n1 => some 57
  | .ac_15_p1 => some 58
  | .ac_15_n1 => some 59
  | .ac_16_p1 => some 60
  | .ac_16_n1 => some 61
  | .ac_0_p8 => some 62
  | .ac_0_n8 => some 63
  | .ac_0_p9 => some 64
  | .ac_0_n9 => some 65
  | .ac_0_p10 => some 66
  | .ac_0_n10 => some 67
  | .ac_0_p11 => some 68
  | .ac_0_n11 => some 69
  | .ac_1_p5 => some 70
  | .ac_1_n5 => some 71
  | .ac_2_p4 => some 72
  | .ac_2_n4 => some 73
  | .ac_3_p3 => some 74
  | .ac_3_n3 => some 75
  | .ac_4_p3 => some 76
  | .ac_4_n3 => some 77
  | .ac_6_p2 => some 78
  | .ac_6_n2 => some 79
  | .ac_7_p2 => some 80
  | .ac_7_n2 => some 81
  | .ac_8_p2 => some 82
  | .ac_8_n2 => some 83
  | .ac_17_p1 => some 84
  | .ac_17_n1 => some 85
  | .ac_18_p1 => some 86
  | .ac_18_n1 => some 87
  | .ac_19_p1 => some 88
  | .ac_19_n1 => some 89
  | .ac_20_p1 => some 90
  | .ac_20_n1 => some 91
  | .ac_21_p1 => some 92
  | .ac_21_n1 => some 93
  | .ac_0_p12 => some 94
  | .ac_0_n12 => some 95
  | .ac_0_p13 => some 96
  | .ac_0_n13 => some 97
  | .ac_0_p14 => some 98
  | .ac_0_n14 => some 99
  | .ac_0_p15 => some 100
  | .ac_0_n15 => some 101
  | .ac_1_p6 => some 102
  | .ac_1_n6 => some 103
  | .ac_1_p7 => some 104
  | .ac_1_n7 => some 105
  | .ac_2_p5 => some 106
  | .ac_2_n5 => some 107
  | .ac_3_p4 => some 108
  | .ac_3_n4 => some 109
  | .ac_5_p3 => some 110
  | .ac_5_n3 => some 111
  | .ac_9_p2 => some 112
  | .ac_9_n2 => some 113
  | .ac_10_p2 => some 114
  | .ac_10_n2 => some 115
  | .ac_22_p1 => some 116
  | .ac_22_n1 => some 117
  | .ac_23_p1 => some 118
  | .ac_23_n1 => some 119
  | .ac_24_p1 => some 120
  | .ac_24_n1 => some 121
  | .ac_25_p1 => some 122
  | .ac_25_n1 => some 123
  | .ac_26_p1 => some 124
  | .ac_26_n1 => some 125
  | .ac_0_p16 => some 126
  | .ac_0_n16 => some 127
  | .ac_0_p17 => some 128
  | .ac_0_n17 => some 129
  | .ac_0_p18 => some 130
  | .ac_0_n18 => some 131
  | .ac_0_p19 => some 132
  | .ac_0_n19 => some 133
  | .ac_0_p20 => some 134
  | .ac_0_n20 => some 135
  | .ac_0_p21 => some 136
  | .ac_0_n21 => some 137
  | .ac_0_p22 => some 138
  | .ac_0_n22 => some 139
  | .ac_0_p23 => some 140
  | .ac_0_n23 => some 141
  | .ac_0_p24 => some 142
  | .ac_0_n24 => some 143
  | .ac_0_p25 => some 144
  | .ac_0_n25 => some 145
  | .ac_0_p26 => some 146
  | .ac_0_n26 => some 147
  | .ac_0_p27 => some 148
  | .ac_0_n27 => some 149
  | .ac_0_p28 => some 150
  | .ac_0_n28 => some 151
  | .ac_0_p29 => some 152
  | .ac_0_n29 => some 153
  | .ac_0_p30 => some 154
  | .ac_0_n30 => some 155
  | .ac_0_p31 => some 156
  | .ac_0_n31 => some 157
  | .ac_0_p32 => some 158
  | .ac_0_n32 => some 159
  | .ac_0_p33 => some 160
  | .ac_0_n33 => some 161
  | .ac_0_p34 => some 162
  | .ac_0_n34 => some 163
  | .ac_0_p35 => some 164
  | .ac_0_n35 => some 165
  | .ac_0_p36 => some 166
  | .ac_0_n36 => some 167
  | .ac_0_p37 => some 168
  | .ac_0_n37 => some 169
  | .ac_0_p38 => some 170
  | .ac_0_n38 => some 171
  | .ac_0_p39 => some 172
  | .ac_0_n39 => some 173
  | .ac_0_p40 => some 174
  | .ac_0_n40 => some 175
  | .ac_1_p8 => some 176
  | .ac_1_n8 => some 177
  | .ac_1_p9 => some 178
  | .ac_1_n9 => some 179
  | .ac_1_p10 => some 180
  | .ac_1_n10 => some 181
  | .ac_1_p11 => some 182
  | .ac_1_n11 => some 183
  | .ac_1_p12 => some 184
  | .ac_1_n12 => some 185
  | .ac_1_p13 => some 186
  | .ac_1_n13 => some 187
  | .ac_1_p14 => some 188
  | .ac_1_n14 => some 189
  | .ac_1_p15 => some 190
  | .ac_1_n15 => some 191
  | .ac_1_p16 => some 192
  | .ac_1_n16 => some 193
  | .ac_1_p17 => some 194
  | .ac_1_n17 => some 195
  | .ac_1_p18 => some 196
  | .ac_1_n18 => some 197
  | .ac_6_p3 => some 198
  | .ac_6_n3 => some 199
  | .ac_11_p2 => some 200
  | .ac_11_n2 => some 201
  | .ac_12_p2 => some 202
  | .ac_12_n2 => some 203
  | .ac_13_p2 => some 204
  | .ac_13_n2 => some 205
  | .ac_14_p2 => some 206
  | .ac_14_n2 => some 207
  | .ac_15_p2 => some 208
  | .ac_15_n2 => some 209
  | .ac_16_p2 => some 210
  | .ac_16_n2 => some 211
  | .ac_27_p1 => some 212
  | .ac_27_n1 => some 213
  | .ac_28_p1 => some 214
  | .ac_28_n1 => some 215
  | .ac_29_p1 => some 216
  | .ac_29_n1 => some 217
  | .ac_30_p1 => some 218
  | .ac_30_n1 => some 219
  | .ac_31_p1 => some 220
  | .ac_31_n1 => some 221
  | .eob => some 222
  | .esc => some 223
  | .reset | .brInit _ | .brReadu _ | .brReads _ | .brPeeku _ | .brPeeks _ | .brSkip _ | .brBitsread
  | .brBitsrem | .bwInit _ _ | .bwWritev _ | .bwWritestr | .bwFinal | .ctDecode _ | .ctEncode _ | .hdrIdentify
  | .decStart _ | .decNext | .decStatus | .encFrame _ | .srchSingle _ | .srchPartial _ | .srchLain | .srchIki
  | .lzDecomp | .lzComp | .dc10 _ | .dcv3LumaS0 | .dcv3LumaS1 _ | .dcv3LumaS2 _ | .dcv3LumaS3 _ | .dcv3LumaS4 _
  | .dcv3LumaS5 _ | .dcv3LumaS6 _ | .dcv3LumaS7 _ | .dcv3LumaS8 _ | .dcv3ChromaS0 | .dcv3ChromaS1 _
  | .dcv3ChromaS2 _ | .dcv3ChromaS3 _ | .dcv3ChromaS4 _ | .dcv3ChromaS5 _ | .dcv3ChromaS6 _ | .dcv3ChromaS7 _
  | .dcv3ChromaS8 _ | .escStdPayload _ _ | .escLainPayloadShort _ _ | .escLainPayloadPos _ _
  | .escLainPayloadNeg _ _ | .pad10Strv2 | .pad10Strv3 | .lzFlag _ | .lzLiteral _ | .lzBackrefShort _ _
  | .lzBackrefLong _ _ => none

/-- The encoder: the bits of an instruction, written from the encoding tables of 30_encoding.md. -/
def encode : Instr → Bits
  | .reset => commandBits 0x01#8 0#8
  | .brInit pol => commandBits 0x10#8 (pol.bits 8)
  | .brReadu n => commandBits 0x11#8 (n.setWidth 8)
  | .brReads n => commandBits 0x12#8 (n.setWidth 8)
  | .brPeeku n => commandBits 0x13#8 (n.setWidth 8)
  | .brPeeks n => commandBits 0x14#8 (n.setWidth 8)
  | .brSkip n => commandBits 0x15#8 (n.setWidth 8)
  | .brBitsread => commandBits 0x16#8 0#8
  | .brBitsrem => commandBits 0x17#8 0#8
  | .bwInit pol al => commandBits 0x20#8 ((0#5 ++ al) ++ pol.bits 1)
  | .bwWritev n => commandBits 0x21#8 (n.setWidth 8)
  | .bwWritestr => commandBits 0x22#8 0#8
  | .bwFinal => commandBits 0x23#8 0#8
  | .ctDecode dia => commandBits 0x30#8 (dia.bits 8)
  | .ctEncode dia => commandBits 0x31#8 (dia.bits 8)
  | .hdrIdentify => commandBits 0x40#8 0#8
  | .decStart fmt => commandBits 0x50#8 (fmt.setWidth 8)
  | .decNext => commandBits 0x51#8 0#8
  | .decStatus => commandBits 0x52#8 0#8
  | .encFrame fmt => commandBits 0x60#8 (fmt.setWidth 8)
  | .srchSingle fmt => commandBits 0x70#8 (fmt.setWidth 8)
  | .srchPartial fmt => commandBits 0x71#8 (fmt.setWidth 8)
  | .srchLain => commandBits 0x72#8 0#8
  | .srchIki => commandBits 0x73#8 0#8
  | .lzDecomp => commandBits 0x80#8 0#8
  | .lzComp => commandBits 0x81#8 0#8
  | .ac_0_p1 => codeBits 0
  | .ac_0_n1 => codeBits 1
  | .ac_1_p1 => codeBits 2
  | .ac_1_n1 => codeBits 3
  | .ac_0_p2 => codeBits 4
  | .ac_0_n2 => codeBits 5
  | .ac_2_p1 => codeBits 6
  | .ac_2_n1 => codeBits 7
  | .ac_0_p3 => codeBits 8
  | .ac_0_n3 => codeBits 9
  | .ac_3_p1 => codeBits 10
  | .ac_3_n1 => codeBits 11
  | .ac_4_p1 => codeBits 12
  | .ac_4_n1 => codeBits 13
  | .ac_1_p2 => codeBits 14
  | .ac_1_n2 => codeBits 15
  | .ac_5_p1 => codeBits 16
  | .ac_5_n1 => codeBits 17
  | .ac_6_p1 => codeBits 18
  | .ac_6_n1 => codeBits 19
  | .ac_7_p1 => codeBits 20
  | .ac_7_n1 => codeBits 21
  | .ac_0_p4 => codeBits 22
  | .ac_0_n4 => codeBits 23
  | .ac_2_p2 => codeBits 24
  | .ac_2_n2 => codeBits 25
  | .ac_8_p1 => codeBits 26
  | .ac_8_n1 => codeBits 27
  | .ac_9_p1 => codeBits 28
  | .ac_9_n1 => codeBits 29
  | .ac_0_p5 => codeBits 30
  | .ac_0_n5 => codeBits 31
  | .ac_0_p6 => codeBits 32
  | .ac_0_n6 => codeBits 33
  | .ac_1_p3 => codeBits 34
  | .ac_1_n3 => codeBits 35
  | .ac_3_p2 => codeBits 36
  | .ac_3_n2 => codeBits 37
  | .ac_10_p1 => codeBits 38
  | .ac_10_n1 => codeBits 39
  | .ac_11_p1 => codeBits 40
  | .ac_11_n1 => codeBits 41
  | .ac_12_p1 => codeBits 42
  | .ac_12_n1 => codeBits 43
  | .ac_13_p1 => codeBits 44
  | .ac_13_n1 => codeBits 45
  | .ac_0_p7 => codeBits 46
  | .ac_0_n7 => codeBits 47
  | .ac_1_p4 => codeBits 48
  | .ac_1_n4 => codeBits 49
  | .ac_2_p3 => codeBits 50
  | .ac_2_n3 => codeBits 51
  | .ac_4_p2 => codeBits 52
  | .ac_4_n2 => codeBits 53
  | .ac_5_p2 => codeBits 54
  | .ac_5_n2 => codeBits 55
  | .ac_14_p1 => codeBits 56
  | .ac_14_n1 => codeBits 57
  | .ac_15_p1 => codeBits 58
  | .ac_15_n1 => codeBits 59
  | .ac_16_p1 => codeBits 60
  | .ac_16_n1 => codeBits 61
  | .ac_0_p8 => codeBits 62
  | .ac_0_n8 => codeBits 63
  | .ac_0_p9 => codeBits 64
  | .ac_0_n9 => codeBits 65
  | .ac_0_p10 => codeBits 66
  | .ac_0_n10 => codeBits 67
  | .ac_0_p11 => codeBits 68
  | .ac_0_n11 => codeBits 69
  | .ac_1_p5 => codeBits 70
  | .ac_1_n5 => codeBits 71
  | .ac_2_p4 => codeBits 72
  | .ac_2_n4 => codeBits 73
  | .ac_3_p3 => codeBits 74
  | .ac_3_n3 => codeBits 75
  | .ac_4_p3 => codeBits 76
  | .ac_4_n3 => codeBits 77
  | .ac_6_p2 => codeBits 78
  | .ac_6_n2 => codeBits 79
  | .ac_7_p2 => codeBits 80
  | .ac_7_n2 => codeBits 81
  | .ac_8_p2 => codeBits 82
  | .ac_8_n2 => codeBits 83
  | .ac_17_p1 => codeBits 84
  | .ac_17_n1 => codeBits 85
  | .ac_18_p1 => codeBits 86
  | .ac_18_n1 => codeBits 87
  | .ac_19_p1 => codeBits 88
  | .ac_19_n1 => codeBits 89
  | .ac_20_p1 => codeBits 90
  | .ac_20_n1 => codeBits 91
  | .ac_21_p1 => codeBits 92
  | .ac_21_n1 => codeBits 93
  | .ac_0_p12 => codeBits 94
  | .ac_0_n12 => codeBits 95
  | .ac_0_p13 => codeBits 96
  | .ac_0_n13 => codeBits 97
  | .ac_0_p14 => codeBits 98
  | .ac_0_n14 => codeBits 99
  | .ac_0_p15 => codeBits 100
  | .ac_0_n15 => codeBits 101
  | .ac_1_p6 => codeBits 102
  | .ac_1_n6 => codeBits 103
  | .ac_1_p7 => codeBits 104
  | .ac_1_n7 => codeBits 105
  | .ac_2_p5 => codeBits 106
  | .ac_2_n5 => codeBits 107
  | .ac_3_p4 => codeBits 108
  | .ac_3_n4 => codeBits 109
  | .ac_5_p3 => codeBits 110
  | .ac_5_n3 => codeBits 111
  | .ac_9_p2 => codeBits 112
  | .ac_9_n2 => codeBits 113
  | .ac_10_p2 => codeBits 114
  | .ac_10_n2 => codeBits 115
  | .ac_22_p1 => codeBits 116
  | .ac_22_n1 => codeBits 117
  | .ac_23_p1 => codeBits 118
  | .ac_23_n1 => codeBits 119
  | .ac_24_p1 => codeBits 120
  | .ac_24_n1 => codeBits 121
  | .ac_25_p1 => codeBits 122
  | .ac_25_n1 => codeBits 123
  | .ac_26_p1 => codeBits 124
  | .ac_26_n1 => codeBits 125
  | .ac_0_p16 => codeBits 126
  | .ac_0_n16 => codeBits 127
  | .ac_0_p17 => codeBits 128
  | .ac_0_n17 => codeBits 129
  | .ac_0_p18 => codeBits 130
  | .ac_0_n18 => codeBits 131
  | .ac_0_p19 => codeBits 132
  | .ac_0_n19 => codeBits 133
  | .ac_0_p20 => codeBits 134
  | .ac_0_n20 => codeBits 135
  | .ac_0_p21 => codeBits 136
  | .ac_0_n21 => codeBits 137
  | .ac_0_p22 => codeBits 138
  | .ac_0_n22 => codeBits 139
  | .ac_0_p23 => codeBits 140
  | .ac_0_n23 => codeBits 141
  | .ac_0_p24 => codeBits 142
  | .ac_0_n24 => codeBits 143
  | .ac_0_p25 => codeBits 144
  | .ac_0_n25 => codeBits 145
  | .ac_0_p26 => codeBits 146
  | .ac_0_n26 => codeBits 147
  | .ac_0_p27 => codeBits 148
  | .ac_0_n27 => codeBits 149
  | .ac_0_p28 => codeBits 150
  | .ac_0_n28 => codeBits 151
  | .ac_0_p29 => codeBits 152
  | .ac_0_n29 => codeBits 153
  | .ac_0_p30 => codeBits 154
  | .ac_0_n30 => codeBits 155
  | .ac_0_p31 => codeBits 156
  | .ac_0_n31 => codeBits 157
  | .ac_0_p32 => codeBits 158
  | .ac_0_n32 => codeBits 159
  | .ac_0_p33 => codeBits 160
  | .ac_0_n33 => codeBits 161
  | .ac_0_p34 => codeBits 162
  | .ac_0_n34 => codeBits 163
  | .ac_0_p35 => codeBits 164
  | .ac_0_n35 => codeBits 165
  | .ac_0_p36 => codeBits 166
  | .ac_0_n36 => codeBits 167
  | .ac_0_p37 => codeBits 168
  | .ac_0_n37 => codeBits 169
  | .ac_0_p38 => codeBits 170
  | .ac_0_n38 => codeBits 171
  | .ac_0_p39 => codeBits 172
  | .ac_0_n39 => codeBits 173
  | .ac_0_p40 => codeBits 174
  | .ac_0_n40 => codeBits 175
  | .ac_1_p8 => codeBits 176
  | .ac_1_n8 => codeBits 177
  | .ac_1_p9 => codeBits 178
  | .ac_1_n9 => codeBits 179
  | .ac_1_p10 => codeBits 180
  | .ac_1_n10 => codeBits 181
  | .ac_1_p11 => codeBits 182
  | .ac_1_n11 => codeBits 183
  | .ac_1_p12 => codeBits 184
  | .ac_1_n12 => codeBits 185
  | .ac_1_p13 => codeBits 186
  | .ac_1_n13 => codeBits 187
  | .ac_1_p14 => codeBits 188
  | .ac_1_n14 => codeBits 189
  | .ac_1_p15 => codeBits 190
  | .ac_1_n15 => codeBits 191
  | .ac_1_p16 => codeBits 192
  | .ac_1_n16 => codeBits 193
  | .ac_1_p17 => codeBits 194
  | .ac_1_n17 => codeBits 195
  | .ac_1_p18 => codeBits 196
  | .ac_1_n18 => codeBits 197
  | .ac_6_p3 => codeBits 198
  | .ac_6_n3 => codeBits 199
  | .ac_11_p2 => codeBits 200
  | .ac_11_n2 => codeBits 201
  | .ac_12_p2 => codeBits 202
  | .ac_12_n2 => codeBits 203
  | .ac_13_p2 => codeBits 204
  | .ac_13_n2 => codeBits 205
  | .ac_14_p2 => codeBits 206
  | .ac_14_n2 => codeBits 207
  | .ac_15_p2 => codeBits 208
  | .ac_15_n2 => codeBits 209
  | .ac_16_p2 => codeBits 210
  | .ac_16_n2 => codeBits 211
  | .ac_27_p1 => codeBits 212
  | .ac_27_n1 => codeBits 213
  | .ac_28_p1 => codeBits 214
  | .ac_28_n1 => codeBits 215
  | .ac_29_p1 => codeBits 216
  | .ac_29_n1 => codeBits 217
  | .ac_30_p1 => codeBits 218
  | .ac_30_n1 => codeBits 219
  | .ac_31_p1 => codeBits 220
  | .ac_31_n1 => codeBits 221
  | .eob => codeBits 222
  | .esc => codeBits 223
  | .dc10 v => toBits 10 v.toNat
  | .dcv3LumaS0 => dcCode true 0
  | .dcv3LumaS1 d => dcCode true 1 ++ toBits 1 d.toNat
  | .dcv3LumaS2 d => dcCode true 2 ++ toBits 2 d.toNat
  | .dcv3LumaS3 d => dcCode true 3 ++ toBits 3 d.toNat
  | .dcv3LumaS4 d => dcCode true 4 ++ toBits 4 d.toNat
  | .dcv3LumaS5 d => dcCode true 5 ++ toBits 5 d.toNat
  | .dcv3LumaS6 d => dcCode true 6 ++ toBits 6 d.toNat
  | .dcv3LumaS7 d => dcCode true 7 ++ toBits 7 d.toNat
  | .dcv3LumaS8 d => dcCode true 8 ++ toBits 8 d.toNat
  | .dcv3ChromaS0 => dcCode false 0
  | .dcv3ChromaS1 d => dcCode false 1 ++ toBits 1 d.toNat
  | .dcv3ChromaS2 d => dcCode false 2 ++ toBits 2 d.toNat
  | .dcv3ChromaS3 d => dcCode false 3 ++ toBits 3 d.toNat
  | .dcv3ChromaS4 d => dcCode false 4 ++ toBits 4 d.toNat
  | .dcv3ChromaS5 d => dcCode false 5 ++ toBits 5 d.toNat
  | .dcv3ChromaS6 d => dcCode false 6 ++ toBits 6 d.toNat
  | .dcv3ChromaS7 d => dcCode false 7 ++ toBits 7 d.toNat
  | .dcv3ChromaS8 d => dcCode false 8 ++ toBits 8 d.toNat
  | .escStdPayload run level => toBits 6 run.toNat ++ toBits 10 level.toNat
  | .escLainPayloadShort run b => toBits 6 run.toNat ++ toBits 8 b.toNat
  | .escLainPayloadPos run x => toBits 6 run.toNat ++ toBits 8 0x00 ++ toBits 8 x.toNat
  | .escLainPayloadNeg run x => toBits 6 run.toNat ++ toBits 8 0x80 ++ toBits 8 x.toNat
  | .pad10Strv2 => padTailStrv2
  | .pad10Strv3 => padTailStrv3
  | .lzFlag f => toBits 8 f.toNat
  | .lzLiteral c => toBits 8 c.toNat
  | .lzBackrefShort len off => toBits 8 len.toNat ++ false :: toBits 7 off.toNat
  | .lzBackrefLong len off => toBits 8 len.toNat ++ true :: toBits 15 off.toNat

/-- The instruction that uses up all of a bit string, at the first of the given positions that has one. -/
def decodeWhole : List Position → Bits → Option Instr
  | [], _ => none
  | p :: ps, bits =>
    match decodeAt p bits with
    | .ok i [] => some i
    | _ => decodeWhole ps bits

/-- The instruction of an opcode-table word (DESIGN CHOICE, log 27). The table's rows share bit patterns, since the
hardware tells a token by where it stands; a word alone is tried as a command, then as a code-table string, as an
STRv3 DC token, as a padding tail, as a ten-bit DC, as a Lain payload and as an LZSS back-reference. Its first stream
bit is bit nbits − 1. -/
def decodeTableWord (nbits w : Nat) : Option Instr :=
  decodeWhole [.command, .code, .dcLuma, .dcChroma, .padStrv2, .padStrv3, .dcTen, .escLain, .lzBackref] (toBits nbits w)

end Sys2Proof
end

