-- ==== Sys2Proof/Machine/State.lean ====
section
/-! DEFINITION. The state of the block as plain data, one sub-record for each unit of the spec (10_state.md), the
reasons a step can stop, and the state after power-on reset (70_reset_and_hazards.md R314). -/

namespace Sys2Proof.Machine

/-- A byte-addressed space (20_memory.md R60): its size, and its bytes that differ from what an unlisted offset
reads as, by rising offset. The canonical form is `Memory.wf`. -/
structure Memory where
  size : Nat
  cells : List Host.Cell
deriving DecidableEq, Repr

/-- A space of no bytes. -/
def Memory.empty : Memory := ⟨0, []⟩

/-- The frame configuration registers (10_state.md R25). -/
structure CfgRegs where
  /-- CFG_FORMAT -/
  format : Format
  /-- CFG_QSCALE -/
  qscale : BitVec 6
  /-- CFG_QSCALE_LUMA -/
  qscaleLuma : BitVec 6
  /-- CFG_QSCALE_CHROMA -/
  qscaleChroma : BitVec 6
  /-- CFG_MB_COUNT -/
  mbCount : Nat
  /-- CFG_START -/
  start : Nat
  /-- CFG_END -/
  stop : Nat
  /-- CFG_PAD_ALIGN -/
  padAlign : Align
deriving DecidableEq, Repr

/-- The bit reader registers (10_state.md R27). -/
structure ReaderRegs where
  /-- BR_START -/
  start : Nat
  /-- BR_END -/
  stop : Nat
  /-- BR_POLICY -/
  policy : Policy
  /-- BR_OFFSET -/
  offset : Nat
  /-- BR_WORD -/
  word : BitVec 16
  /-- BR_BITS_LEFT, 0..16 -/
  bitsLeft : Nat
  /-- BR_EOS -/
  eos : Bool
deriving DecidableEq, Repr

/-- The bit writer registers (10_state.md R30). -/
structure WriterRegs where
  /-- BW_BITS -/
  bits : Bits
  /-- BW_POLICY -/
  policy : Policy
  /-- BW_ALIGN -/
  align : Align
  /-- BW_FINAL -/
  final : Bool
deriving DecidableEq, Repr

/-- DEC_STATE (10_state.md R33), encoded 0..5 in this order. -/
inductive DecState where
  | idle | blockStart | midBlock | padding | done | fault
deriving DecidableEq, Repr

/-- DEC_PAD_STATUS (10_state.md R36), encoded 0..2 in this order. -/
inductive PadStatus where
  | notChecked | valid | mismatch
deriving DecidableEq, Repr

/-- The decode context and the decode state machine (10_state.md R31, R33 to R36, R47). -/
structure DecRegs where
  /-- CTX_BLOCK, 0..5 -/
  ctxBlock : Nat
  /-- CTX_MB -/
  ctxMb : Nat
  /-- CTX_CODES -/
  ctxCodes : Nat
  /-- CTX_BLOCKS -/
  ctxBlocks : Nat
  /-- DEC_STATE -/
  state : DecState
  /-- DEC_VPOS, 0..63 -/
  vpos : Nat
  /-- PRED_CR -/
  predCr : BitVec 10
  /-- PRED_CB -/
  predCb : BitVec 10
  /-- PRED_Y -/
  predY : BitVec 10
  /-- DEC_PAD_STATUS -/
  padStatus : PadStatus
  /-- DEC_FAULT_CODE -/
  faultCode : BitVec 4
  /-- DEC_FAULT_INFO -/
  faultInfo : Int
deriving DecidableEq, Repr

/-- The encoder's registers (10_state.md R37). -/
structure EncRegs where
  /-- ENC_FORMAT -/
  format : Format
  /-- ENC_MB_COUNT -/
  mbCount : Nat
  /-- ENC_Q_FRAME -/
  qFrame : BitVec 6
  /-- ENC_Q_LUMA -/
  qLuma : BitVec 6
  /-- ENC_Q_CHROMA -/
  qChroma : BitVec 6
  /-- ENC_MB_Q -/
  mbQ : List (BitVec 6)
  /-- ENC_PREV_CR -/
  prevCr : Int
  /-- ENC_PREV_CB -/
  prevCb : Int
  /-- ENC_PREV_Y -/
  prevY : Int
  /-- ENC_CODES -/
  codes : Nat
  /-- ENC_BLOCKS -/
  blocks : Nat
  /-- ENC_TABLE -/
  table : Memory
deriving DecidableEq, Repr

/-- The searcher's registers (10_state.md R38). -/
structure SrchRegs where
  /-- SRCH_Q -/
  q : Nat
  /-- SRCH_QL -/
  ql : Nat
  /-- SRCH_QC -/
  qc : Nat
  /-- SRCH_BUDGET -/
  budget : Nat
  /-- SRCH_BEST -/
  best : Option (List Byte)
deriving DecidableEq, Repr

/-- The LZSS unit's registers (10_state.md R39). -/
structure LzRegs where
  /-- LZ_SP -/
  sp : Nat
  /-- LZ_DST -/
  dst : Memory
  /-- LZ_FLAGS -/
  flags : Byte
  /-- LZ_FLAG_I, 0..8 -/
  flagI : Nat
deriving DecidableEq, Repr

/-- The error registers (10_state.md R42). ERR_INFO is an integer: TooMuchEnergy records a level (log 6). -/
structure ErrRegs where
  /-- ERR_CODE -/
  code : BitVec 4
  /-- ERR_INFO -/
  info : Int
  /-- WARN_PADDING -/
  warnPadding : Bool
deriving DecidableEq, Repr

/-- The frame-parameter record of DEC_START and HDR_IDENTIFY (30_encoding.md R105). DESIGN CHOICE, log 33: a field that
the record's format does not use is 0, or the empty list, in a record HDR_IDENTIFY returns, and its buffer is the whole
operand buffer, also where the declared length is shorter; the spec gives no value for either. -/
structure FrameParams where
  format : Nat := 0
  buffer : List Byte := []
  start : Nat := 0
  stop : Nat := 0
  mbCount : Nat := 0
  qscale : Nat := 0
  qscaleLuma : Nat := 0
  qscaleChroma : Nat := 0
  ikiTable : List Byte := []
deriving DecidableEq, Repr

/-- One answer of the coefficient source: the codes of block b of macroblock mb at scale q (44_encoder.md R220). -/
structure Answer where
  mb : Nat
  b : Nat
  q : Nat
  block : List MdecCode
deriving DecidableEq, Repr

/-- The operand record the host hands over with a command word (30_encoding.md R103, R104). One record serves every
command; a command reads its own fields (DESIGN CHOICE, log 2). -/
structure Operands where
  /-- BR_INIT, HDR_IDENTIFY: the buffer -/
  buffer : List Byte := []
  /-- BR_INIT, LZ_DECOMP: start -/
  start : Nat := 0
  /-- BR_INIT: end -/
  stop : Nat := 0
  /-- BW_WRITEV: value -/
  value : Int := 0
  /-- BW_WRITESTR: the characters -/
  chars : List Char := []
  /-- CT_DECODE: the 17-bit window -/
  window : Nat := 0
  /-- CT_ENCODE: run -/
  run : Nat := 0
  /-- CT_ENCODE: level -/
  level : Int := 0
  /-- HDR_IDENTIFY: declared length -/
  length : Nat := 0
  /-- HDR_IDENTIFY, ENC_FRAME, the searches: macroblock count -/
  mbCount : Nat := 0
  /-- DEC_START: the frame-parameter record -/
  params : FrameParams := {}
  /-- ENC_FRAME: the scales -/
  qscale : Nat := 0
  qscaleLuma : Nat := 0
  qscaleChroma : Nat := 0
  mbQscale : List Nat := []
  /-- ENC_FRAME, the searches: the Iki frame dimensions -/
  width : Nat := 0
  height : Nat := 0
  /-- ENC_FRAME, the searches: the coefficient source -/
  source : List Answer := []
  /-- the searches: the byte budget -/
  budget : Nat := 0
  /-- SRCH_PARTIAL: the original scale -/
  qOrig : Nat := 0
  /-- SRCH_IKI: the ordering keys -/
  energy : List Int := []
  distance : List Int := []
  /-- LZ_DECOMP: source bytes -/
  src : List Byte := []
  /-- LZ_DECOMP: expected size -/
  dsize : Nat := 0
  /-- LZ_COMP: data bytes -/
  data : List Byte := []
deriving DecidableEq, Repr

/-- A command the host has issued: its word and its operand record (30_encoding.md R103). -/
structure HostCommand where
  word : BitVec 16
  operands : Operands
deriving DecidableEq, Repr

/-- The record DEC_STATUS returns (43_decoder.md R207). -/
structure StatusRecord where
  state : DecState
  bitsRead : Nat
  byteOffset : Nat
  qscale : BitVec 6
  qscaleLuma : BitVec 6
  qscaleChroma : BitVec 6
  padStatus : PadStatus
  warnPadding : Bool
  faultCode : BitVec 4
  faultInfo : Int
  errCode : BitVec 4
  errInfo : Int
  block : Nat
  mb : Nat
  codes : Nat
  blocks : Nat
deriving DecidableEq, Repr

/-- What a command reports to the host when it ends (60_exceptions.md R285; the results are those of the command's
own rule). -/
inductive Reply where
  /-- nothing yet -/
  | none
  /-- the command ended and returns no value -/
  | done
  /-- BR_READU, BR_READS -/
  | value (v : Int)
  /-- BR_PEEKU, BR_PEEKS: value and real-bit count -/
  | peek (v : Int) (got : Nat)
  /-- BR_BITSREAD, BR_BITSREM -/
  | count (n : Nat)
  /-- BW_FINAL, LZ_COMP -/
  | bytes (b : List Byte)
  /-- CT_DECODE: ordinal, length, meaning -/
  | entry (ordinal len : Nat) (meaning : CodeMeaning)
  /-- CT_DECODE: NO_MATCH -/
  | noMatch
  /-- CT_ENCODE: ordinal and bit string -/
  | code (ordinal : Nat) (bits : Bits)
  /-- CT_ENCODE: NONE -/
  | noCode
  /-- HDR_IDENTIFY -/
  | params (p : FrameParams)
  /-- DEC_NEXT: one code -/
  | mdec (c : MdecCode)
  /-- DEC_NEXT: END -/
  | endMark
  /-- DEC_STATUS -/
  | status (r : StatusRecord)
  /-- ENC_FRAME: the frame and its size -/
  | frame (b : List Byte) (size : Nat)
  /-- SRCH_SINGLE, SRCH_PARTIAL: the frame and its scale -/
  | found (b : List Byte) (q : Nat)
  /-- SRCH_LAIN: the frame and its scales -/
  | foundLain (b : List Byte) (ql qc : Nat)
  /-- SRCH_IKI: the frame and its macroblock scales -/
  | foundIki (b : List Byte) (mbq : List Nat)
  /-- a search's NO_FIT -/
  | noFit
  /-- LZ_DECOMP: the bytes and how many source bytes were used -/
  | unpacked (b : List Byte) (used : Nat)
  /-- an exception, its info, and the zero-filled value of a short BR_READU or BR_READS -/
  | exception (code : BitVec 4) (info : Int) (value : Option Int)
deriving DecidableEq, Repr

/-- What the port CODE_OUT carries during a DEC_NEXT (10_state.md R41). -/
inductive CodeOut where
  | code (c : MdecCode)
  | endMark
deriving DecidableEq, Repr

/-- The kinds of diagnostic entry (60_exceptions.md R300). -/
inductive DiagKind where
  | exception (code : BitVec 4)
  | paddingMismatch
deriving DecidableEq, Repr

/-- An entry of the host's diagnostic list (60_exceptions.md R300). -/
structure DiagEntry where
  kind : DiagKind
  info : Int
deriving DecidableEq, Repr

/-- The interface to the host: the MODEL's own fields, not registers of the block (log 1 to log 4). -/
structure HostPort where
  /-- commands issued and not yet taken, the next one first -/
  pending : List HostCommand
  /-- the operand record of the command being performed -/
  operands : Operands
  /-- what the last command reported -/
  reply : Reply
  /-- what CODE_OUT carried in the last command -/
  codeOut : Option CodeOut
  /-- the host's diagnostic list -/
  diag : List DiagEntry
deriving DecidableEq, Repr

/-- The state of one instance of the block. -/
structure State where
  cfg : CfgRegs
  /-- FRAME -/
  frame : Memory
  /-- IKI_TABLE -/
  ikiTable : Memory
  /-- OUT -/
  out : Memory
  rd : ReaderRegs
  wr : WriterRegs
  dec : DecRegs
  enc : EncRegs
  srch : SrchRegs
  lz : LzRegs
  err : ErrRegs
  host : HostPort
deriving DecidableEq, Repr

/-- The reasons a step stops with a fault: there are none. Every failure the spec gives the block is an exception it
takes and reports (60_exceptions.md R285, R293), after which it is ready for the next command (R294). Safe. -/
inductive Fault where
deriving DecidableEq, Repr

/-- The reasons a step has no meaning. -/
inductive Refusal where
  /-- An arm of `exec` whose instruction has no meaning yet. Safe: nothing is claimed of it. -/
  | notModelled (mnemonic : String)
  /-- A bitstream token's meaning asked for where the grammar reads no such token (30_encoding.md R99): no rule gives
  it an effect there. Raised by the meanings of the decoder's tokens, never by a host command. Safe (log 9). -/
  | tokenOutOfPlace
deriving DecidableEq, Repr

/-- The power-on values of the frame configuration (70_reset_and_hazards.md R314). -/
def CfgRegs.reset : CfgRegs :=
  { format := .strv1, qscale := 0, qscaleLuma := 0, qscaleChroma := 0, mbCount := 0, start := 0, stop := 0,
    padAlign := .two }

/-- The power-on values of the bit reader (70_reset_and_hazards.md R314). -/
def ReaderRegs.reset : ReaderRegs :=
  { start := 0, stop := 0, policy := .le16, offset := 0, word := 0, bitsLeft := 0, eos := false }

/-- The power-on values of the bit writer (70_reset_and_hazards.md R314). -/
def WriterRegs.reset : WriterRegs := { bits := [], policy := .le16, align := .two, final := false }

/-- The power-on values of the decoder (70_reset_and_hazards.md R314). -/
def DecRegs.reset : DecRegs :=
  { ctxBlock := 0, ctxMb := 0, ctxCodes := 0, ctxBlocks := 0, state := .idle, vpos := 0, predCr := 0, predCb := 0,
    predY := 0, padStatus := .notChecked, faultCode := 0, faultInfo := 0 }

/-- The power-on values of the encoder (70_reset_and_hazards.md R314). -/
def EncRegs.reset : EncRegs :=
  { format := .strv1, mbCount := 0, qFrame := 0, qLuma := 0, qChroma := 0, mbQ := [], prevCr := 0, prevCb := 0,
    prevY := 0, codes := 0, blocks := 0, table := Memory.empty }

/-- The power-on values of the searcher (70_reset_and_hazards.md R314). -/
def SrchRegs.reset : SrchRegs := { q := 0, ql := 0, qc := 0, budget := 0, best := none }

/-- The power-on values of the LZSS unit (70_reset_and_hazards.md R314). -/
def LzRegs.reset : LzRegs := { sp := 0, dst := Memory.empty, flags := 0, flagI := 0 }

/-- The power-on values of the error registers (70_reset_and_hazards.md R314). -/
def ErrRegs.reset : ErrRegs := { code := 0, info := 0, warnPadding := false }

/-- The host interface before the host has issued anything (DESIGN CHOICE, log 1 to log 4). -/
def HostPort.reset : HostPort := { pending := [], operands := {}, reply := .none, codeOut := none, diag := [] }

/-- The block right after power-on reset (70_reset_and_hazards.md R311, R314): it waits for the host's first command
(R315). -/
def State.reset : State :=
  { cfg := CfgRegs.reset, frame := Memory.empty, ikiTable := Memory.empty, out := Memory.empty,
    rd := ReaderRegs.reset, wr := WriterRegs.reset, dec := DecRegs.reset, enc := EncRegs.reset,
    srch := SrchRegs.reset, lz := LzRegs.reset, err := ErrRegs.reset, host := HostPort.reset }

end Sys2Proof.Machine
end

