-- ==== Sys2Proof/Machine/Ops.lean ====
section
/-! DEFINITION. The named operations over the byte spaces and the registers, the taking of an exception
(60_exceptions.md R293), the end of a command, and the taking of the host's next command. -/

namespace Sys2Proof.Machine

/-! ### Byte spaces (20_memory.md R60, R61) -/

/-- What an offset inside a space reads as when no cell lists it. Every byte of a space is put there by whoever made
the space, so this fixes only how zero bytes are held (log 19). -/
def Memory.fill : Byte := 0#8

/-- The byte a cell list gives for an offset. -/
def Memory.lookup (cells : List Host.Cell) (a : Nat) : Byte :=
  match cells with
  | [] => Memory.fill
  | (k, b) :: cs => if k = a then b else Memory.lookup cs a

/-- `MemRead(space, addr, 1)`: none at or beyond the space's size, where no access is performed (20_memory.md R61). -/
def Memory.read (m : Memory) (a : Nat) : Option Byte :=
  if a < m.size then some (Memory.lookup m.cells a) else none

/-- Writes one cell in place, keeping the offsets rising and listing no cell that reads as an unlisted one. -/
def Memory.insert (cells : List Host.Cell) (a : Nat) (b : Byte) : List Host.Cell :=
  match cells with
  | [] => if b = Memory.fill then [] else [(a, b)]
  | (k, c) :: cs =>
    if k < a then (k, c) :: Memory.insert cs a b
    else if k = a then (if b = Memory.fill then cs else (a, b) :: cs)
    else if b = Memory.fill then (k, c) :: cs
    else (a, b) :: (k, c) :: cs

/-- `MemWrite(space, addr, 1, b)`; a write at or beyond the size is never performed (20_memory.md R61). -/
def Memory.write (m : Memory) (a : Nat) (b : Byte) : Memory :=
  if a < m.size then { m with cells := Memory.insert m.cells a b } else m

/-- The cells of a byte list that starts at an offset. -/
def Memory.cellsFrom (a : Nat) : List Byte → List Host.Cell
  | [] => []
  | b :: bs => if b = Memory.fill then Memory.cellsFrom (a + 1) bs else (a, b) :: Memory.cellsFrom (a + 1) bs

/-- A space holding the given bytes. -/
def Memory.ofBytes (bytes : List Byte) : Memory := ⟨bytes.length, Memory.cellsFrom 0 bytes⟩

/-- The bytes of a space in order. -/
def Memory.toBytes (m : Memory) : List Byte := (List.range m.size).map (Memory.lookup m.cells)

/-- The offsets rise strictly, lie below the size, and no listed byte reads as an unlisted one. -/
def Memory.cellsWf (size : Nat) : List Host.Cell → Bool
  | [] => true
  | [(a, b)] => decide (a < size) && b != Memory.fill
  | (a, b) :: (a', b') :: cs => decide (a < a') && b != Memory.fill && Memory.cellsWf size ((a', b') :: cs)

/-- The canonical form of a space. -/
def Memory.wf (m : Memory) : Bool := Memory.cellsWf m.size m.cells

/-! ### One update for each unit -/

def State.withCfg (s : State) (x : CfgRegs) : State := { s with cfg := x }
def State.withFrame (s : State) (x : Memory) : State := { s with frame := x }
def State.withIkiTable (s : State) (x : Memory) : State := { s with ikiTable := x }
def State.withOut (s : State) (x : Memory) : State := { s with out := x }
def State.withRd (s : State) (x : ReaderRegs) : State := { s with rd := x }
def State.withWr (s : State) (x : WriterRegs) : State := { s with wr := x }
def State.withDec (s : State) (x : DecRegs) : State := { s with dec := x }
def State.withEnc (s : State) (x : EncRegs) : State := { s with enc := x }
def State.withSrch (s : State) (x : SrchRegs) : State := { s with srch := x }
def State.withLz (s : State) (x : LzRegs) : State := { s with lz := x }
def State.withErr (s : State) (x : ErrRegs) : State := { s with err := x }
def State.withHost (s : State) (x : HostPort) : State := { s with host := x }

/-- `ERR_CODE <- 0; ERR_INFO <- 0`, by the commands 10_state.md R42 lists (log 7). -/
def State.clearErr (s : State) : State := s.withErr { s.err with code := 0, info := 0 }

/-! ### MdecCodes (10_state.md R21, R22) -/

/-- `Mdec(top, bottom)`. -/
def mdec (top : Nat) (bottom : Int) : MdecCode := BitVec.ofNat 16 (top % 64 * 1024 + lowBits 10 bottom)

/-- `top(c)`. -/
def mdecTop (c : MdecCode) : Nat := (c.extractLsb' 10 6).toNat

/-- `bottom(c)`. -/
def mdecBottom (c : MdecCode) : Int := (c.extractLsb' 0 10).toInt

/-- The end-of-data sentinel. -/
def eod : MdecCode := 0xFE00#16

/-! ### The end of a command -/

/-- The command ends and reports r; CODE_OUT carried nothing. -/
def State.finish (s : State) (r : Reply) : State := s.withHost { s.host with reply := r, codeOut := none }

/-- `emit c` and `return c` (00_scope.md R12, 10_state.md R41): CTX_CODES counts it (10_state.md R32). -/
def State.emit (s : State) (c : MdecCode) : State :=
  (s.withDec { s.dec with ctxCodes := s.dec.ctxCodes + 1 }).withHost
    { s.host with reply := .mdec c, codeOut := some (.code c) }

/-- `return END`: the marker on CODE_OUT, no code emitted (43_decoder.md R188). -/
def State.endOfFrame (s : State) : State :=
  s.withHost { s.host with reply := .endMark, codeOut := some .endMark }

/-- `Diag(kind, info)`: appends to the host's list and changes no register (60_exceptions.md R300). -/
def State.diagnose (s : State) (k : DiagKind) (info : Int) : State :=
  s.withHost { s.host with diag := s.host.diag ++ [⟨k, info⟩] }

/-! ### Exceptions (60_exceptions.md R285, R286, R293) -/

/-- An exception: its code in ERR_CODE and its info in ERR_INFO (60_exceptions.md R286). -/
structure Exc where
  code : BitVec 4
  info : Int
deriving DecidableEq, Repr

/-- The sub-codes of ContractViolation (60_exceptions.md R286). -/
inductive Contract where
  | badOpcode | badImm | badWidth | badOperand | notStarted | badSource | writerFinal
deriving DecidableEq, Repr

/-- The sub-codes of ReadCorruption (60_exceptions.md R286). -/
inductive Corruption where
  | noTableEntry | blockOverflow | dcOutOfRange | dcVlcNoMatch
deriving DecidableEq, Repr

/-- The sub-codes of LzssMalformed (60_exceptions.md R286). -/
inductive LzFault where
  | truncated | badDistance | overflow
deriving DecidableEq, Repr

def contractCode : Contract → Int
  | .badOpcode => 1
  | .badImm => 2
  | .badWidth => 3
  | .badOperand => 4
  | .notStarted => 5
  | .badSource => 6
  | .writerFinal => 7

def corruptionCode : Corruption → Int
  | .noTableEntry => 1
  | .blockOverflow => 2
  | .dcOutOfRange => 3
  | .dcVlcNoMatch => 4

def lzFaultCode : LzFault → Int
  | .truncated => 1
  | .badDistance => 2
  | .overflow => 3

/-- FormatNotRecognized. -/
def excNotRecognized : Exc := ⟨1, 0⟩

/-- EndOfStream(k): k real bits were delivered. -/
def excEndOfStream (k : Nat) : Exc := ⟨2, k⟩

/-- ReadCorruption. -/
def excCorrupt (c : Corruption) : Exc := ⟨3, corruptionCode c⟩

/-- TooMuchEnergy(level). -/
def excTooMuchEnergy (level : Int) : Exc := ⟨4, level⟩

/-- IncompatibleQuantization(block index). -/
def excIncompatible (block : Nat) : Exc := ⟨5, block⟩

/-- ContractViolation. -/
def excContract (c : Contract) : Exc := ⟨6, contractCode c⟩

/-- LzssMalformed. -/
def excLzss (f : LzFault) : Exc := ⟨7, lzFaultCode f⟩

/-- Which command raises, as far as exception entry asks (60_exceptions.md R293). -/
inductive Raiser where
  /-- DEC_NEXT -/
  | decNext
  /-- ENC_FRAME or a search -/
  | encoder
  /-- any other command -/
  | other
deriving DecidableEq, Repr

/-- EndOfStream and ReadCorruption, the exceptions that fault the decoder (43_decoder.md R208). -/
def Exc.faultsDecoder (e : Exc) : Bool := e.code == 2#4 || e.code == 3#4

/-- The decoder's registers after exception entry (60_exceptions.md R293). -/
def faultRecord (who : Raiser) (e : Exc) (d : DecRegs) : DecRegs :=
  if who = .decNext ∧ e.faultsDecoder then { d with faultCode := e.code, faultInfo := e.info, state := .fault } else d

/-- EXCEPTION ENTRY (60_exceptions.md R293): the one operation by which a command raises. There is no return from an
exception: the block is ready for the next command at once (R294). `value` is the zero-filled value reported with an
EndOfStream of BR_READU or BR_READS. -/
def State.raise (s : State) (who : Raiser) (e : Exc) (value : Option Int := none) : State :=
  { s with
    err := { s.err with code := e.code, info := e.info }
    dec := faultRecord who e s.dec
    out := if who = .encoder then Memory.empty else s.out
    host := { s.host with
      diag := s.host.diag ++ [⟨.exception e.code, e.info⟩]
      reply := .exception e.code e.info value
      codeOut := none } }

/-- A command that ends with a next state. -/
abbrev Result := Host.Outcome State Fault Refusal

/-- A command refused by a ContractViolation of its own checks (60_exceptions.md R287). -/
def violate (s : State) (c : Contract) : Result := .next (s.raise .other (excContract c))

/-! ### The command stream (10_state.md R48, 60_exceptions.md R287) -/

/-- The next command's word, with the state in which the command runs: its operand record on the port, and the word
taken from the stream. None while the host has issued nothing more (70_reset_and_hazards.md R315). -/
def State.fetch (s : State) : Option (BitVec 16 × State) :=
  match s.host.pending with
  | [] => none
  | c :: rest => some (c.word, s.withHost { s.host with pending := rest, operands := c.operands })

/-- A word that is no command: ContractViolation(BAD_OPCODE) or (BAD_IMM) (60_exceptions.md R287). A command word is
rejected for no other reason. -/
def State.rejectCommand (s : State) (why : DecodeError) : State :=
  s.raise .other (excContract (if why = .badOpcode then .badOpcode else .badImm))

/-- `s` with one more command at the head of the stream, carrying the operand record already on the port. -/
def State.issue (s : State) (word : BitVec 16) : State :=
  s.withHost { s.host with pending := ⟨word, s.host.operands⟩ :: s.host.pending }

end Sys2Proof.Machine
end

