-- ==== Sys2Proof/Machine/Flags.lean ====
section
/-! DEFINITION. The status flags (10_state.md R45): BR_EOS, BW_FINAL, WARN_PADDING and DEC_PAD_STATUS. The block has
no arithmetic condition codes. -/

namespace Sys2Proof.Machine

/-- BR_EOS after a read or skip that was to deliver n bits and delivered `got`: set when it ran out, else kept; it is
sticky (40_bit_cursor.md R126). -/
def eosAfter (old : Bool) (got n : Nat) : Bool := old || decide (got < n)

/-- The padding check (43_decoder.md R205): valid only for ten real bits that are the format's tail. -/
def padOutcome (got v tail : Nat) : PadStatus := if got = 10 ∧ v = tail then .valid else .mismatch

/-- WARN_PADDING after the padding check: set by a mismatch, else kept (10_state.md R42). -/
def warnAfter (old : Bool) (p : PadStatus) : Bool := old || p == .mismatch

/-- A write or a second finalization is refused once BW_FINAL is set (40_bit_cursor.md R135). -/
def writerClosed (w : WriterRegs) : Bool := w.final

end Sys2Proof.Machine
end

