-- ==== Sys2Proof/Machine/Operands.lean ====
section
/-! DEFINITION. The operand forms: what a format code, a scale, a block index, a layout parameter or a source answer
means to a command, with every legality check the rules give. -/

namespace Sys2Proof.Machine

/-! ### Formats (10_state.md R24, 43_decoder.md R185) -/

/-- `dialect(fmt)`. -/
def dialectOf (f : Format) : Dialect := if f = .lain then .lain else .standard

/-- `policy(fmt)`. -/
def policyOf (f : Format) : Policy := if f = .lain then .be else .le16

/-- The formats STRv1, STRv2, STRv3, which carry one frame-wide scale. -/
def isStr (f : Format) : Bool := f == .strv1 || f == .strv2 || f == .strv3

/-- The padding tail of a format, or none (43_decoder.md R185). -/
def padTail (f : Format) : Option Bits :=
  match f with
  | .strv2 => some padTailStrv2
  | .strv3 => some padTailStrv3
  | .strv1 | .iki | .lain => none

/-- `BW_ALIGN` in bytes. -/
def alignBytes : Align → Nat
  | .one => 1
  | .two => 2
  | .four => 4

/-- The alignment of a 2-bit code; 3 is reserved (40_bit_cursor.md R134). -/
def alignOfCode (al : BitVec 2) : Option Align :=
  match al.toNat with
  | 0 => some .one
  | 1 => some .two
  | 2 => some .four
  | _ => none

/-- PAD_ALIGN(fmt): the open parameter at the values 20_memory.md R67 allows, 2 or 4 bytes for the LE16 formats
(log 11). -/
def padAlign (f : Format) : Align :=
  match f, Config.padAlign f with
  | .lain, a => a
  | _, .one => .two
  | _, a => a

/-- A scale operand is legal: 1..63. -/
def legalScale (q : Nat) : Bool := decide (1 ≤ q) && decide (q ≤ 63)

/-- A scale register holding a scale operand. -/
def scaleReg (q : Nat) : BitVec 6 := BitVec.ofNat 6 q

/-! ### Blocks (10_state.md R23) -/

/-- The channel classes of STRv3 DC prediction. -/
inductive BlockClass where
  | cr | cb | y
deriving DecidableEq, Repr

/-- `cls(b)`. -/
def blockClass (b : Nat) : BlockClass := if b = 0 then .cr else if b = 1 then .cb else .y

/-- `luma(b)`. -/
def isLuma (b : Nat) : Bool := decide (2 ≤ b)

/-! ### Buffers -/

/-- `start <= end <= size(buffer)` (40_bit_cursor.md R124, 43_decoder.md R186). -/
def legalSpan (start stop size : Nat) : Bool := decide (start ≤ stop) && decide (stop ≤ size)

/-- A bit count is legal: 1..31 (40_bit_cursor.md R123). A 5-bit field holds no other illegal value than 0. -/
def legalWidth (n : BitVec 5) : Bool := n != 0#5

/-- `u16le` as bytes. -/
def u16le (v : Nat) : List Byte := [BitVec.ofNat 8 (v % 256), BitVec.ofNat 8 (v / 256 % 256)]

/-- A byte of a buffer; 0 beyond it, where no rule reads. -/
def byteAt (buf : List Byte) (a : Nat) : Nat := (buf.getD a 0#8).toNat

/-! ### Header fields (42_headers.md R167, R171, R176) -/

/-- The value of `n` bytes from `a` on, first byte most significant. -/
def fieldBig (buf : List Byte) : Nat → Nat → Nat
  | _, 0 => 0
  | a, n + 1 => byteAt buf a * 256 ^ n + fieldBig buf (a + 1) n

/-- The value of `n` bytes from `a` on, first byte least significant. -/
def fieldLittle (buf : List Byte) : Nat → Nat → Nat
  | _, 0 => 0
  | a, n + 1 => byteAt buf a + 256 * fieldLittle buf (a + 1) n

/-- The unsigned value of a header field (20_memory.md R76: bytes, zero-extended). -/
def readField (buf : List Byte) (p : FieldPos) : Nat :=
  if p.bigEndian then fieldBig buf p.off p.width else fieldLittle buf p.off p.width

/-- Byte number i of a field that holds v. -/
def fieldByte (p : FieldPos) (v i : Nat) : Byte :=
  let place := if p.bigEndian then p.width - 1 - i else i
  BitVec.ofNat 8 (v / 256 ^ place % 256)

/-- A field is wide enough for a value. -/
def fieldHolds (p : FieldPos) (v : Nat) : Bool := decide (v < 256 ^ p.width)

/-- A frame dimension that an Iki header can carry: positive (42_headers.md R173) and within its field (log 17). -/
def ikiDimensionOk (p : FieldPos) (v : Nat) : Bool := decide (0 < v) && fieldHolds p v

/-- The byte a list of placed fields gives for an offset, if one of them covers it. -/
def fieldCover : List (FieldPos × Nat) → Nat → Option Byte
  | [], _ => none
  | (p, v) :: fs, a =>
    if p.off ≤ a ∧ a < p.off + p.width then some (fieldByte p v (a - p.off)) else fieldCover fs a

/-- Two fields share no byte. -/
def fieldsDisjoint (p q : FieldPos) : Bool := decide (p.off + p.width ≤ q.off) || decide (q.off + q.width ≤ p.off)

/-- Fields that are pairwise disjoint, hold at least one byte each, and end at or before a limit. -/
def fieldsOk (limit : Nat) : List FieldPos → Bool
  | [] => true
  | p :: ps => decide (1 ≤ p.width) && decide (p.off + p.width ≤ limit) && ps.all (fieldsDisjoint p) && fieldsOk limit ps

/-- What 93_implementation_defined.md section 3 asks of IKI_HEADER_LAYOUT: the fields lie in the header and an encoder
can place them. -/
def ikiLayoutOk (l : IkiLayout) : Bool :=
  fieldsOk l.lzOffset [l.magic, l.width, l.height, l.csize] && decide (l.magicValue < 256 ^ l.magic.width)

/-- What 93_implementation_defined.md section 3 asks of LAIN_HEADER_LAYOUT; the magic-or-frame field must hold
0x3800. -/
def lainLayoutOk (l : LainLayout) : Bool :=
  fieldsOk l.bsOffset [l.qLuma, l.qChroma, l.magicOrFrame, l.version] && decide (2 ≤ l.magicOrFrame.width)

/-- A layout that passes `ikiLayoutOk`, standing for the parameter only where the parameter does not (log 13). -/
def ikiLayoutLegal : IkiLayout :=
  ⟨⟨0, 2, false⟩, ⟨2, 2, false⟩, ⟨4, 2, false⟩, ⟨6, 2, false⟩, 0, 8⟩

/-- A layout that passes `lainLayoutOk`, standing for the parameter only where the parameter does not (log 14). -/
def lainLayoutLegal : LainLayout := ⟨⟨0, 1, true⟩, ⟨1, 1, true⟩, ⟨2, 2, true⟩, ⟨4, 2, true⟩, 6⟩

/-- IKI_HEADER_LAYOUT at the values its constraint allows (log 13). -/
def ikiLayout : IkiLayout := if ikiLayoutOk Config.ikiLayout then Config.ikiLayout else ikiLayoutLegal

/-- IKI_BS_OFFSET for a compressed size: never inside the LZSS data (log 13). -/
def ikiBsOffset (csize : Nat) : Nat := max (Config.ikiBsOffset csize) (ikiLayout.lzOffset + csize)

/-- LAIN_HEADER_LAYOUT at the values its constraint allows (log 14). -/
def lainLayout : LainLayout := if lainLayoutOk Config.lainLayout then Config.lainLayout else lainLayoutLegal

/-- `IKI_MBC(w, h) = ceil(w / 16) × ceil(h / 16)` (42_headers.md R172). -/
def ikiMbc (w h : Nat) : Nat := (w + 15) / 16 * ((h + 15) / 16)

/-! ### The Iki table (43_decoder.md R190, 44_encoder.md R233) -/

/-- What IKI_TABLE_LAYOUT must be for a table of n blocks: 2n byte positions, all different, all inside it. -/
def ikiEntriesOk (n : Nat) (pos : Nat → Nat × Nat) : Bool :=
  let all := (List.range n).flatMap fun k => [(pos k).1, (pos k).2]
  decide all.Nodup && all.all fun a => decide (a < 2 * n)

/-- The positions of the high and low byte of block k's entry in a table of n blocks: the open parameter where it is
such a layout (log 15). -/
def ikiEntryBytes (n k : Nat) : Nat × Nat :=
  if ikiEntriesOk n (Config.ikiEntryBytes n) then Config.ikiEntryBytes n k else (2 * k, 2 * k + 1)

/-- `IkiEntry(table, k)`. -/
def ikiEntry (n : Nat) (table : Memory) (k : Nat) : MdecCode :=
  let p := ikiEntryBytes n k
  ((table.read p.1).getD 0#8) ++ ((table.read p.2).getD 0#8)

/-- `IkiPack(table, k, c)`: changes only the two bytes of entry k. -/
def ikiPack (n : Nat) (table : Memory) (k : Nat) (c : MdecCode) : Memory :=
  let p := ikiEntryBytes n k
  (table.write p.1 (c.extractLsb' 8 8)).write p.2 (c.extractLsb' 0 8)

/-! ### The coefficient source (44_encoder.md R220, R222) -/

/-- `Src(mb, b, q)`: the source is a list of answers, so it answers one question in one way (log 5). A question it
lists no answer to is answered with the empty list, which is no well-formed block. -/
def askSource (src : List Answer) (mb b q : Nat) : List MdecCode :=
  match src.find? fun a => a.mb == mb && a.b == b && a.q == q with
  | some a => a.block
  | none => []

/-- The AC codes of a source answer: all but the first and the last. -/
def acCodes (blk : List MdecCode) : List MdecCode := blk.tail.dropLast

/-- `Σ (run + 1)` over a list of AC codes. -/
def runSum : List MdecCode → Nat
  | [] => 0
  | c :: cs => mdecTop c + 1 + runSum cs

/-- `CheckBlock(blk, q)` (44_encoder.md R222). -/
def wellFormedBlock (blk : List MdecCode) : Bool :=
  decide (2 ≤ blk.length) && blk.getLast? == some eod && blk.dropLast.all (fun c => c != eod)
    && decide (runSum (acCodes blk) ≤ 63)

end Sys2Proof.Machine
end

