-- ==== Sys2Proof/Machine/CodeTable.lean ====
section
/-! DEFINITION. The code tables of both dialects and their lookups, and the commands CT_DECODE and CT_ENCODE
(41_code_table.md). -/

namespace Sys2Proof.Machine

/-- A table of 224 entries: the catalog's bit strings with the meanings an assignment gives them
(41_code_table.md R150). -/
def bindTable (f : Nat → CodeMeaning) : List Entry := catalog.map fun e => { e with meaning := f e.ordinal }

/-- No bit string is the beginning of another, and none stands twice (41_code_table.md R151, (2) and (5)). -/
def prefixFree : List Bits → Bool
  | [] => true
  | a :: codes => codes.all (fun b => !a.isPrefixOf b && !b.isPrefixOf a) && prefixFree codes

/-- The builder invariants of 41_code_table.md R151, (1) to (5), on a table. -/
def builderOk (t : List Entry) : Bool :=
  let meanings := t.map Entry.meaning
  meanings.count .esc == 1 && meanings.count .eob == 1
    && decide (meanings.filter fun m => m != .esc && m != .eob).Nodup
    && t.map Entry.ordinal == List.range 224 && prefixFree (t.map Entry.bits)

/-- The invariants asked of a DC size table (70_reset_and_hazards.md R311). -/
def dcTableOk (luma : Bool) : Bool := prefixFree ((List.range 9).map (dcCode luma))

/-- `CT[d]`: the 224 entries of a dialect in ordinal order (41_code_table.md R150). -/
def codeTable (d : Dialect) : List Entry :=
  match d with
  | .standard => catalog
  | .lain => bindTable Config.lainAcTable.meaning

/-- `Lookup(d, w)`: the entry whose bit string opens the 17 bits of w, or NO_MATCH (41_code_table.md R152). -/
def lookup (d : Dialect) (w : Nat) : Option Entry :=
  (codeTable d).find? fun e => e.bits.isPrefixOf (toBits 17 w)

/-- `EncodeLookup(d, run, level)`: the first entry that means AC(run, level), or NONE (41_code_table.md R155). -/
def encodeLookup (d : Dialect) (run : Nat) (level : Int) : Option Entry :=
  (codeTable d).find? fun e => e.meaning == .ac run level

/-- The bit string a dialect gives to end-of-block. -/
def eobBits (d : Dialect) : Bits :=
  (((codeTable d).find? fun e => e.meaning == .eob).map Entry.bits).getD []

/-- The bit string a dialect gives to escape. -/
def escBits (d : Dialect) : Bits :=
  (((codeTable d).find? fun e => e.meaning == .esc).map Entry.bits).getD []

/-- What CT_DECODE returns for a window (41_code_table.md R154). -/
def decodeReply (d : Dialect) (w : Nat) : Reply :=
  match lookup d w with
  | none => .noMatch
  | some e => .entry e.ordinal e.bits.length e.meaning

/-- CT_DECODE (41_code_table.md R154). -/
def execCtDecode (dia : Dialect) (s : State) : Result :=
  if s.host.operands.window < 2 ^ 17 then .next (s.finish (decodeReply dia s.host.operands.window))
  else violate s .badOperand

/-- What CT_ENCODE returns for a pair (41_code_table.md R156). -/
def encodeReply (d : Dialect) (run : Nat) (level : Int) : Reply :=
  match encodeLookup d run level with
  | none => .noCode
  | some e => .code e.ordinal e.bits

/-- CT_ENCODE (41_code_table.md R156). -/
def execCtEncode (dia : Dialect) (s : State) : Result :=
  let o := s.host.operands
  if o.run ≤ 63 ∧ -512 ≤ o.level ∧ o.level ≤ 511 then .next (s.finish (encodeReply dia o.run o.level))
  else violate s .badOperand

end Sys2Proof.Machine
end

