-- ==== Sys2Proof/Machine/Reader.lean ====
section
/-! DEFINITION. The bit reader (40_bit_cursor.md sections 1 and 2). Its primitives act on FRAME and the reader's
registers alone; the decode state machine uses the same ones (R139). -/

namespace Sys2Proof.Machine

/-- `LoadWord()`: the next word, if both its bytes lie before BR_END (40_bit_cursor.md R120). An offset beyond FRAME,
which no run reaches, ends the stream as well: no access beyond a space is performed (20_memory.md R61, log 20). -/
def loadWord (m : Memory) (r : ReaderRegs) : Option ReaderRegs :=
  if r.stop < r.offset + 2 then none
  else
    match m.read r.offset, m.read (r.offset + 1) with
    | some b0, some b1 =>
      some { r with
        word := (match r.policy with
          | .le16 => b1 ++ b0
          | .be => b0 ++ b1)
        offset := r.offset + 2
        bitsLeft := 16 }
    | _, _ => none

/-- One bit in stream order, loading a word only when a bit of it is needed (40_bit_cursor.md R121). -/
def takeBit (m : Memory) (r : ReaderRegs) : Option (Bool × ReaderRegs) :=
  match (if r.bitsLeft = 0 then loadWord m r else some r) with
  | none => none
  | some r' => some (r'.word.getLsbD (r'.bitsLeft - 1), { r' with bitsLeft := r'.bitsLeft - 1 })

/-- What a taking of bits delivered: the zero-filled value, how many bits were real, the registers after it. -/
structure Taken where
  value : Nat
  got : Nat
  regs : ReaderRegs
deriving DecidableEq, Repr

/-- The loop of `TakeBits`: `n` bits still wanted, `k` taken with value `v`. -/
def takeLoop (m : Memory) : Nat → Nat → Nat → ReaderRegs → Taken
  | 0, v, k, r => ⟨v, k, r⟩
  | n + 1, v, k, r =>
    match takeBit m r with
    | none => ⟨v * 2 ^ (n + 1), k, r⟩
    | some (b, r') => takeLoop m n (2 * v + b.toNat) (k + 1) r'

/-- `TakeBits(n)` (40_bit_cursor.md R121). -/
def takeBits (m : Memory) (r : ReaderRegs) (n : Nat) : Taken := takeLoop m n 0 0 r

/-- A read or skip of n bits: `TakeBits(n)`, with BR_EOS set when it ran out (40_bit_cursor.md R125, R126). -/
def readBits (m : Memory) (r : ReaderRegs) (n : Nat) : Taken :=
  let t := takeBits m r n
  { t with regs := { t.regs with eos := eosAfter t.regs.eos t.got n } }

/-- `PeekU(n)`: value and real-bit count; the cursor is restored (40_bit_cursor.md R128). PEEK_EOS_FATAL is false. -/
def peekBits (m : Memory) (r : ReaderRegs) (n : Nat) : Nat × Nat :=
  let t := takeBits m r n
  (t.value, t.got)

/-- BR_BITS_READ (10_state.md R28). -/
def bitsRead (r : ReaderRegs) : Nat := 8 * (r.offset - r.start) - r.bitsLeft

/-- BR_AVAIL_TOTAL (10_state.md R28). -/
def availTotal (r : ReaderRegs) : Nat := 16 * ((r.stop - r.start) / 2)

/-- BR_BITS_REMAINING (10_state.md R28). -/
def bitsRemaining (r : ReaderRegs) : Nat := availTotal r - bitsRead r

/-- The bits of the stream from the cursor on, at most n of them: the sequence S of 40_bit_cursor.md R122. -/
def streamBits (m : Memory) : Nat → ReaderRegs → Bits
  | 0, _ => []
  | n + 1, r =>
    match takeBit m r with
    | none => []
    | some (b, r') => b :: streamBits m n r'

/-- Every bit the stream still delivers. -/
def remainingBits (m : Memory) (r : ReaderRegs) : Bits := streamBits m (bitsRemaining r) r

/-- `DecodeActive()` (40_bit_cursor.md R124). -/
def decodeActive (s : State) : Bool :=
  s.dec.state == .blockStart || s.dec.state == .midBlock || s.dec.state == .padding

/-- The reader as BR_INIT and DEC_START leave it (40_bit_cursor.md R124, 43_decoder.md R186). -/
def readerAt (start stop : Nat) (pol : Policy) : ReaderRegs :=
  { start := start, stop := stop, policy := pol, offset := start, word := 0, bitsLeft := 0, eos := false }

/-- BR_INIT (40_bit_cursor.md R124). -/
def execBrInit (pol : Policy) (s : State) : Result :=
  let o := s.host.operands
  if !legalSpan o.start o.stop o.buffer.length || decodeActive s then violate s .badOperand
  else .next (((s.withFrame (Memory.ofBytes o.buffer)).withRd (readerAt o.start o.stop pol)).finish .done)

/-- The checks a moving reader command makes before anything else: the width, then who owns the reader
(40_bit_cursor.md R123, R125). -/
def readerRefusal (n : BitVec 5) (s : State) : Option Contract :=
  if !legalWidth n then some .badWidth else if decodeActive s then some .badOperand else none

/-- A direct read of n bits whose result is `view` of the value; a skip has none (40_bit_cursor.md R125, R130). -/
def readCommand (n : BitVec 5) (view : Nat → Option Int) (s : State) : Result :=
  match readerRefusal n s with
  | some c => violate s c
  | none =>
    let t := readBits s.frame s.rd n.toNat
    let s' := s.withRd t.regs
    if t.got < n.toNat then .next (s'.raise .other (excEndOfStream t.got) (view t.value))
    else
      match view t.value with
      | some v => .next (s'.finish (.value v))
      | none => .next (s'.finish .done)

/-- BR_READU (40_bit_cursor.md R125). -/
def execBrReadu (n : BitVec 5) (s : State) : Result := readCommand n (fun v => some (v : Int)) s

/-- BR_READS (40_bit_cursor.md R127). -/
def execBrReads (n : BitVec 5) (s : State) : Result := readCommand n (fun v => some (sext n.toNat v)) s

/-- BR_SKIP (40_bit_cursor.md R130). -/
def execBrSkip (n : BitVec 5) (s : State) : Result := readCommand n (fun _ => none) s

/-- A peek of n bits, allowed in every decoder state (40_bit_cursor.md R128). -/
def peekCommand (n : BitVec 5) (view : Nat → Int) (s : State) : Result :=
  if !legalWidth n then violate s .badWidth
  else
    let p := peekBits s.frame s.rd n.toNat
    .next (s.finish (.peek (view p.1) p.2))

/-- BR_PEEKU (40_bit_cursor.md R128). -/
def execBrPeeku (n : BitVec 5) (s : State) : Result := peekCommand n (fun v => (v : Int)) s

/-- BR_PEEKS (40_bit_cursor.md R129). -/
def execBrPeeks (n : BitVec 5) (s : State) : Result := peekCommand n (fun v => sext n.toNat v) s

/-- BR_BITSREAD (40_bit_cursor.md R132). -/
def execBrBitsread (s : State) : Result := .next (s.finish (.count (bitsRead s.rd)))

/-- BR_BITSREM (40_bit_cursor.md R133). -/
def execBrBitsrem (s : State) : Result := .next (s.finish (.count (bitsRemaining s.rd)))

end Sys2Proof.Machine
end

