-- ==== Sys2Proof/Machine/Decoder.lean ====
section
/-! DEFINITION. The decode state machine (43_decoder.md). DEC_START and DEC_NEXT, and the operations on one token that
DEC_NEXT and the token instructions of Machine/Tokens.lean and Machine/Codes.lean share. -/

namespace Sys2Proof.Machine

/-- `raise` inside a DEC_NEXT step (43_decoder.md R208). -/
def decRaise (s : State) (e : Exc) : State := s.raise .decNext e

/-! ### Starting a frame (43_decoder.md R186) -/

/-- The record's scales are legal for the format (43_decoder.md R186). -/
def legalScales (f : Format) (p : FrameParams) : Bool :=
  if isStr f then legalScale p.qscale
  else if f = .lain then legalScale p.qscaleLuma && legalScale p.qscaleChroma
  else true

/-- DEC_START accepts a record (43_decoder.md R186). -/
def acceptsFrame (f : Format) (p : FrameParams) : Bool :=
  p.format == f.code && legalSpan p.start p.stop p.buffer.length && legalScales f p
    && (f != .iki || p.ikiTable.length == 12 * p.mbCount)

/-- The frame configuration a record loads; unused scales are 0 (43_decoder.md R186). -/
def frameConfig (f : Format) (p : FrameParams) : CfgRegs :=
  { format := f
    qscale := if isStr f then scaleReg p.qscale else 0
    qscaleLuma := if f = .lain then scaleReg p.qscaleLuma else 0
    qscaleChroma := if f = .lain then scaleReg p.qscaleChroma else 0
    mbCount := p.mbCount
    start := p.start
    stop := p.stop
    padAlign := padAlign f }

/-- The state a frame starts in (43_decoder.md R186, R210). -/
def firstState (f : Format) (mbCount : Nat) : DecState :=
  if 0 < mbCount then .blockStart else if (padTail f).isSome then .padding else .done

/-- A frame start: every per-frame register of the decoder and the reader (43_decoder.md R186, 10_state.md R46). -/
def startFrame (f : Format) (p : FrameParams) (s : State) : State :=
  { s with
    cfg := frameConfig f p
    ikiTable := if f = .iki then Memory.ofBytes p.ikiTable else Memory.empty
    frame := Memory.ofBytes p.buffer
    rd := readerAt p.start p.stop (policyOf f)
    dec := { DecRegs.reset with state := firstState f p.mbCount }
    err := ErrRegs.reset }

/-- DEC_START (43_decoder.md R186). -/
def execDecStart (fmt : BitVec 3) (s : State) : Result :=
  match Format.ofCode fmt with
  | none => violate s .badOperand
  | some f =>
    if acceptsFrame f s.host.operands.params then .next ((startFrame f s.host.operands.params s).finish .done)
    else violate s .badOperand

/-! ### Reading inside a step (40_bit_cursor.md R139) -/

/-- `ReadU(n)`: goes on with the value and the state after it, or faults the decoder with EndOfStream. -/
def readThen (n : Nat) (s : State) (k : Nat → State → State) : State :=
  let t := readBits s.frame s.rd n
  let s' := s.withRd t.regs
  if t.got < n then decRaise s' (excEndOfStream t.got) else k t.value s'

/-- `Skip(n)`. -/
def skipThen (n : Nat) (s : State) (k : State → State) : State := readThen n s fun _ s' => k s'

/-! ### Block start (43_decoder.md R189 to R194) -/

/-- `BlockStart()` once the strategy has given the code (43_decoder.md R194). -/
def startBlock (code : MdecCode) (s : State) : State :=
  (s.withDec { s.dec with vpos := 0, state := .midBlock }).emit code

/-- The scale of a block start outside Iki: the frame's, or Lain's by class (43_decoder.md R189, R193). -/
def blockScale (s : State) : BitVec 6 :=
  if s.cfg.format = .lain then (if isLuma s.dec.ctxBlock then s.cfg.qscaleLuma else s.cfg.qscaleChroma)
  else s.cfg.qscale

/-- The STRv3 predictor of the current block's class (10_state.md R35). -/
def predictor (d : DecRegs) : BitVec 10 :=
  match blockClass d.ctxBlock with
  | .cr => d.predCr
  | .cb => d.predCb
  | .y => d.predY

/-- Writes the STRv3 predictor of the current block's class. -/
def setPredictor (d : DecRegs) (v : BitVec 10) : DecRegs :=
  match blockClass d.ctxBlock with
  | .cr => { d with predCr := v }
  | .cb => { d with predCb := v }
  | .y => { d with predY := v }

/-- The differential of size s with differential bits v (30_encoding.md R93). -/
def dcDiff (size v : Nat) : Int :=
  if size = 0 then 0 else if v.testBit (size - 1) then (v : Int) else (v : Int) - (2 ^ size - 1)

/-- STRv3 block start once its differential is known: range check, predictor, code (43_decoder.md R191). -/
def startBlockV3 (diff : Int) (s : State) : State :=
  let dc := (predictor s.dec).toInt + 4 * diff
  if dc < -512 ∨ 511 < dc then decRaise s (excCorrupt .dcOutOfRange)
  else startBlock (mdec s.cfg.qscale.toNat dc) (s.withDec (setPredictor s.dec (BitVec.ofInt 10 dc)))

/-- A `DC10` block start (43_decoder.md R189, R193). -/
def dcTenStart (s : State) : State :=
  readThen 10 s fun v s' => startBlock (mdec (blockScale s).toNat (sext 10 v)) s'

/-- An STRv3 block start whose size code is known: skip the code, read the differential bits (43_decoder.md R191). -/
def dcV3Sized (luma : Bool) (size : Nat) (s : State) : State :=
  skipThen (dcCode luma size).length s fun s' =>
    if size = 0 then startBlockV3 0 s' else readThen size s' fun v s'' => startBlockV3 (dcDiff size v) s''

/-- An STRv3 block start (43_decoder.md R191, R192). -/
def dcV3Start (s : State) : State :=
  let luma := isLuma s.dec.ctxBlock
  let m := if luma then 7 else 8
  match dcSize luma (toBits m (peekBits s.frame s.rd m).1) with
  | none => decRaise s (excCorrupt .dcVlcNoMatch)
  | some size => dcV3Sized luma size s

/-- An Iki block start: the table entry as it stands (43_decoder.md R190). -/
def ikiStart (s : State) : State :=
  startBlock (ikiEntry (6 * s.cfg.mbCount) s.ikiTable s.dec.ctxBlocks) s

/-- `BlockStart()` with the format's strategy (43_decoder.md R185, R194). -/
def blockStartStep (s : State) : State :=
  match s.cfg.format with
  | .strv1 | .strv2 | .lain => dcTenStart s
  | .strv3 => dcV3Start s
  | .iki => ikiStart s

/-! ### Codes inside a block (43_decoder.md R195 to R203) -/

/-- A (run, level) pair is placed: the position check, then the code (43_decoder.md R201). -/
def placeCode (run : Nat) (level : Int) (s : State) : State :=
  if 64 ≤ s.dec.vpos + run + 1 then decRaise s (excCorrupt .blockOverflow)
  else (s.withDec { s.dec with vpos := s.dec.vpos + run + 1 }).emit (mdec run level)

/-- The decoder's context after an end-of-block (43_decoder.md R203). -/
def afterBlock (fmt : Format) (mbCount : Nat) (d : DecRegs) : DecRegs :=
  { d with
    ctxBlocks := d.ctxBlocks + 1
    ctxBlock := if d.ctxBlock = 5 then 0 else d.ctxBlock + 1
    ctxMb := if d.ctxBlock = 5 then d.ctxMb + 1 else d.ctxMb
    vpos := 0
    state := if d.ctxBlocks + 1 = 6 * mbCount then (if (padTail fmt).isSome then .padding else .done) else .blockStart }

/-- `EndOfBlock()` (43_decoder.md R203). -/
def endOfBlock (s : State) : State := (s.withDec (afterBlock s.cfg.format s.cfg.mbCount s.dec)).emit eod

/-- The ESC_STD strategy (43_decoder.md R197). -/
def escStd (s : State) : State :=
  readThen 6 s fun run s' => readThen 10 s' fun v s'' => placeCode run (sext 10 v) s''

/-- The ESC_LAIN strategy (43_decoder.md R198). -/
def escLain (s : State) : State :=
  readThen 6 s fun run s' => readThen 8 s' fun b s'' =>
    if b = 0x00 then readThen 8 s'' fun x s3 => placeCode run x s3
    else if b = 0x80 then readThen 8 s'' fun x s3 => placeCode run ((x : Int) - 256) s3
    else placeCode run (sext 8 b) s''

/-- The escape strategy of the format (43_decoder.md R185). -/
def escapeStep (s : State) : State := if s.cfg.format = .lain then escLain s else escStd s

/-- A code whose bit string has been matched: its length is skipped, then it means what the dialect binds to it
(43_decoder.md R200, R201). -/
def codeStep (len : Nat) (meaning : CodeMeaning) (s : State) : State :=
  skipThen len s fun s' =>
    match meaning with
    | .eob => endOfBlock s'
    | .esc => escapeStep s'
    | .ac run level => placeCode run level s'

/-- `AcStep()` (43_decoder.md R201); a short window that matches nothing is EndOfStream (R199). -/
def acStep (s : State) : State :=
  let p := peekBits s.frame s.rd 17
  match lookup (dialectOf s.cfg.format) p.1 with
  | none => decRaise s (if p.2 < 17 then excEndOfStream p.2 else excCorrupt .noTableEntry)
  | some e => codeStep e.bits.length e.meaning s

/-! ### The padding tail (43_decoder.md R205) -/

/-- The padding check with the value v taken to be the tail's ten bits. -/
def paddingOutcome (v : Nat) (t : Taken) (tail : Nat) (s : State) : State :=
  let p := padOutcome t.got v tail
  let s1 := s.withRd { t.regs with eos := eosAfter t.regs.eos t.got 10 }
  let s2 := s1.withDec { s1.dec with padStatus := p, state := .done }
  let s3 := s2.withErr { s2.err with warnPadding := warnAfter s2.err.warnPadding p }
  (if p = .mismatch then s3.diagnose .paddingMismatch v else s3).endOfFrame

/-- `PaddingStep()`. A format without a tail never stands in PADDING (43_decoder.md R210); its tail is then empty. -/
def paddingStep (s : State) : State :=
  let t := takeBits s.frame s.rd 10
  paddingOutcome t.value t (ofBits ((padTail s.cfg.format).getD [])) s

/-! ### DEC_NEXT (43_decoder.md R188) -/

/-- The exception a faulted decoder raises again (43_decoder.md R208). -/
def stickyExc (d : DecRegs) : Exc := ⟨d.faultCode, d.faultInfo⟩

/-- One step of the state machine. -/
def decNext (s : State) : State :=
  match s.dec.state with
  | .idle => decRaise s (excContract .notStarted)
  | .blockStart => blockStartStep s
  | .midBlock => acStep s
  | .padding => paddingStep s
  | .done => s.endOfFrame
  | .fault => decRaise s (stickyExc s.dec)

/-- DEC_NEXT (43_decoder.md R188). -/
def execDecNext (s : State) : Result := .next (decNext s)

/-- What DEC_STATUS reports (43_decoder.md R207). -/
def statusOf (s : State) : StatusRecord :=
  { state := s.dec.state, bitsRead := bitsRead s.rd, byteOffset := s.rd.offset, qscale := s.cfg.qscale,
    qscaleLuma := s.cfg.qscaleLuma, qscaleChroma := s.cfg.qscaleChroma, padStatus := s.dec.padStatus,
    warnPadding := s.err.warnPadding, faultCode := s.dec.faultCode, faultInfo := s.dec.faultInfo,
    errCode := s.err.code, errInfo := s.err.info, block := s.dec.ctxBlock, mb := s.dec.ctxMb,
    codes := s.dec.ctxCodes, blocks := s.dec.ctxBlocks }

/-- DEC_STATUS (43_decoder.md R207). -/
def execDecStatus (s : State) : Result := .next (s.finish (.status (statusOf s)))

/-! ### The token the decoder reads next (30_encoding.md R85, R99) -/

/-- Where in the grammar the decoder stands: none in IDLE, DONE and FAULT, and at an Iki block start, which reads no
token (30_encoding.md R94). -/
def decodePosition (s : State) : Option Position :=
  match s.dec.state with
  | .blockStart =>
    match s.cfg.format with
    | .strv1 | .strv2 | .lain => some .dcTen
    | .strv3 => some (if isLuma s.dec.ctxBlock then .dcLuma else .dcChroma)
    | .iki => none
  | .midBlock => some .code
  | .padding =>
    match s.cfg.format with
    | .strv2 => some .padStrv2
    | .strv3 => some .padStrv3
    | .strv1 | .iki | .lain => none
  | .idle | .done | .fault => none

/-- The token at the cursor, if a whole one is there. -/
def nextToken (s : State) : Option Instr :=
  match decodePosition s with
  | none => none
  | some p =>
    match decodeAt p (remainingBits s.frame s.rd) with
    | .ok i _ => some i
    | .reject _ => none

/-! ### Tokens as instructions (log 9) -/

/-- A token's meaning at a place where the grammar reads it; elsewhere no rule gives it an effect. -/
def tokenAt (here : Bool) (s : State) (k : State → State) : Result :=
  if here then .next (k s) else .refused .tokenOutOfPlace

/-- The bit string of an ordinal as the decoder's next code: what the frame's dialect binds to it. -/
def codeToken (ordinal : Nat) (s : State) : Result :=
  tokenAt (s.dec.state == .midBlock) s fun s =>
    match (codeTable (dialectOf s.cfg.format))[ordinal]? with
    | some e => codeStep e.bits.length e.meaning s
    | none => s

end Sys2Proof.Machine
end

