-- ==== Sys2Proof/Machine/Codes.lean ====
section
/-! DEFINITION. The 224 bit strings of the code table as instructions (30_encoding.md R87): each is what DEC_NEXT does
inside a block when that string is the next one, by its ordinal (43_decoder.md R201). -/

namespace Sys2Proof.Machine

/-- Ordinal 0. -/
def execAc_0_p1 (s : State) : Result := codeToken 0 s
/-- Ordinal 1. -/
def execAc_0_n1 (s : State) : Result := codeToken 1 s
/-- Ordinal 2. -/
def execAc_1_p1 (s : State) : Result := codeToken 2 s
/-- Ordinal 3. -/
def execAc_1_n1 (s : State) : Result := codeToken 3 s
/-- Ordinal 4. -/
def execAc_0_p2 (s : State) : Result := codeToken 4 s
/-- Ordinal 5. -/
def execAc_0_n2 (s : State) : Result := codeToken 5 s
/-- Ordinal 6. -/
def execAc_2_p1 (s : State) : Result := codeToken 6 s
/-- Ordinal 7. -/
def execAc_2_n1 (s : State) : Result := codeToken 7 s
/-- Ordinal 8. -/
def execAc_0_p3 (s : State) : Result := codeToken 8 s
/-- Ordinal 9. -/
def execAc_0_n3 (s : State) : Result := codeToken 9 s
/-- Ordinal 10. -/
def execAc_3_p1 (s : State) : Result := codeToken 10 s
/-- Ordinal 11. -/
def execAc_3_n1 (s : State) : Result := codeToken 11 s
/-- Ordinal 12. -/
def execAc_4_p1 (s : State) : Result := codeToken 12 s
/-- Ordinal 13. -/
def execAc_4_n1 (s : State) : Result := codeToken 13 s
/-- Ordinal 14. -/
def execAc_1_p2 (s : State) : Result := codeToken 14 s
/-- Ordinal 15. -/
def execAc_1_n2 (s : State) : Result := codeToken 15 s
/-- Ordinal 16. -/
def execAc_5_p1 (s : State) : Result := codeToken 16 s
/-- Ordinal 17. -/
def execAc_5_n1 (s : State) : Result := codeToken 17 s
/-- Ordinal 18. -/
def execAc_6_p1 (s : State) : Result := codeToken 18 s
/-- Ordinal 19. -/
def execAc_6_n1 (s : State) : Result := codeToken 19 s
/-- Ordinal 20. -/
def execAc_7_p1 (s : State) : Result := codeToken 20 s
/-- Ordinal 21. -/
def execAc_7_n1 (s : State) : Result := codeToken 21 s
/-- Ordinal 22. -/
def execAc_0_p4 (s : State) : Result := codeToken 22 s
/-- Ordinal 23. -/
def execAc_0_n4 (s : State) : Result := codeToken 23 s
/-- Ordinal 24. -/
def execAc_2_p2 (s : State) : Result := codeToken 24 s
/-- Ordinal 25. -/
def execAc_2_n2 (s : State) : Result := codeToken 25 s
/-- Ordinal 26. -/
def execAc_8_p1 (s : State) : Result := codeToken 26 s
/-- Ordinal 27. -/
def execAc_8_n1 (s : State) : Result := codeToken 27 s
/-- Ordinal 28. -/
def execAc_9_p1 (s : State) : Result := codeToken 28 s
/-- Ordinal 29. -/
def execAc_9_n1 (s : State) : Result := codeToken 29 s
/-- Ordinal 30. -/
def execAc_0_p5 (s : State) : Result := codeToken 30 s
/-- Ordinal 31. -/
def execAc_0_n5 (s : State) : Result := codeToken 31 s
/-- Ordinal 32. -/
def execAc_0_p6 (s : State) : Result := codeToken 32 s
/-- Ordinal 33. -/
def execAc_0_n6 (s : State) : Result := codeToken 33 s
/-- Ordinal 34. -/
def execAc_1_p3 (s : State) : Result := codeToken 34 s
/-- Ordinal 35. -/
def execAc_1_n3 (s : State) : Result := codeToken 35 s
/-- Ordinal 36. -/
def execAc_3_p2 (s : State) : Result := codeToken 36 s
/-- Ordinal 37. -/
def execAc_3_n2 (s : State) : Result := codeToken 37 s
/-- Ordinal 38. -/
def execAc_10_p1 (s : State) : Result := codeToken 38 s
/-- Ordinal 39. -/
def execAc_10_n1 (s : State) : Result := codeToken 39 s
/-- Ordinal 40. -/
def execAc_11_p1 (s : State) : Result := codeToken 40 s
/-- Ordinal 41. -/
def execAc_11_n1 (s : State) : Result := codeToken 41 s
/-- Ordinal 42. -/
def execAc_12_p1 (s : State) : Result := codeToken 42 s
/-- Ordinal 43. -/
def execAc_12_n1 (s : State) : Result := codeToken 43 s
/-- Ordinal 44. -/
def execAc_13_p1 (s : State) : Result := codeToken 44 s
/-- Ordinal 45. -/
def execAc_13_n1 (s : State) : Result := codeToken 45 s
/-- Ordinal 46. -/
def execAc_0_p7 (s : State) : Result := codeToken 46 s
/-- Ordinal 47. -/
def execAc_0_n7 (s : State) : Result := codeToken 47 s
/-- Ordinal 48. -/
def execAc_1_p4 (s : State) : Result := codeToken 48 s
/-- Ordinal 49. -/
def execAc_1_n4 (s : State) : Result := codeToken 49 s
/-- Ordinal 50. -/
def execAc_2_p3 (s : State) : Result := codeToken 50 s
/-- Ordinal 51. -/
def execAc_2_n3 (s : State) : Result := codeToken 51 s
/-- Ordinal 52. -/
def execAc_4_p2 (s : State) : Result := codeToken 52 s
/-- Ordinal 53. -/
def execAc_4_n2 (s : State) : Result := codeToken 53 s
/-- Ordinal 54. -/
def execAc_5_p2 (s : State) : Result := codeToken 54 s
/-- Ordinal 55. -/
def execAc_5_n2 (s : State) : Result := codeToken 55 s
/-- Ordinal 56. -/
def execAc_14_p1 (s : State) : Result := codeToken 56 s
/-- Ordinal 57. -/
def execAc_14_n1 (s : State) : Result := codeToken 57 s
/-- Ordinal 58. -/
def execAc_15_p1 (s : State) : Result := codeToken 58 s
/-- Ordinal 59. -/
def execAc_15_n1 (s : State) : Result := codeToken 59 s
/-- Ordinal 60. -/
def execAc_16_p1 (s : State) : Result := codeToken 60 s
/-- Ordinal 61. -/
def execAc_16_n1 (s : State) : Result := codeToken 61 s
/-- Ordinal 62. -/
def execAc_0_p8 (s : State) : Result := codeToken 62 s
/-- Ordinal 63. -/
def execAc_0_n8 (s : State) : Result := codeToken 63 s
/-- Ordinal 64. -/
def execAc_0_p9 (s : State) : Result := codeToken 64 s
/-- Ordinal 65. -/
def execAc_0_n9 (s : State) : Result := codeToken 65 s
/-- Ordinal 66. -/
def execAc_0_p10 (s : State) : Result := codeToken 66 s
/-- Ordinal 67. -/
def execAc_0_n10 (s : State) : Result := codeToken 67 s
/-- Ordinal 68. -/
def execAc_0_p11 (s : State) : Result := codeToken 68 s
/-- Ordinal 69. -/
def execAc_0_n11 (s : State) : Result := codeToken 69 s
/-- Ordinal 70. -/
def execAc_1_p5 (s : State) : Result := codeToken 70 s
/-- Ordinal 71. -/
def execAc_1_n5 (s : State) : Result := codeToken 71 s
/-- Ordinal 72. -/
def execAc_2_p4 (s : State) : Result := codeToken 72 s
/-- Ordinal 73. -/
def execAc_2_n4 (s : State) : Result := codeToken 73 s
/-- Ordinal 74. -/
def execAc_3_p3 (s : State) : Result := codeToken 74 s
/-- Ordinal 75. -/
def execAc_3_n3 (s : State) : Result := codeToken 75 s
/-- Ordinal 76. -/
def execAc_4_p3 (s : State) : Result := codeToken 76 s
/-- Ordinal 77. -/
def execAc_4_n3 (s : State) : Result := codeToken 77 s
/-- Ordinal 78. -/
def execAc_6_p2 (s : State) : Result := codeToken 78 s
/-- Ordinal 79. -/
def execAc_6_n2 (s : State) : Result := codeToken 79 s
/-- Ordinal 80. -/
def execAc_7_p2 (s : State) : Result := codeToken 80 s
/-- Ordinal 81. -/
def execAc_7_n2 (s : State) : Result := codeToken 81 s
/-- Ordinal 82. -/
def execAc_8_p2 (s : State) : Result := codeToken 82 s
/-- Ordinal 83. -/
def execAc_8_n2 (s : State) : Result := codeToken 83 s
/-- Ordinal 84. -/
def execAc_17_p1 (s : State) : Result := codeToken 84 s
/-- Ordinal 85. -/
def execAc_17_n1 (s : State) : Result := codeToken 85 s
/-- Ordinal 86. -/
def execAc_18_p1 (s : State) : Result := codeToken 86 s
/-- Ordinal 87. -/
def execAc_18_n1 (s : State) : Result := codeToken 87 s
/-- Ordinal 88. -/
def execAc_19_p1 (s : State) : Result := codeToken 88 s
/-- Ordinal 89. -/
def execAc_19_n1 (s : State) : Result := codeToken 89 s
/-- Ordinal 90. -/
def execAc_20_p1 (s : State) : Result := codeToken 90 s
/-- Ordinal 91. -/
def execAc_20_n1 (s : State) : Result := codeToken 91 s
/-- Ordinal 92. -/
def execAc_21_p1 (s : State) : Result := codeToken 92 s
/-- Ordinal 93. -/
def execAc_21_n1 (s : State) : Result := codeToken 93 s
/-- Ordinal 94. -/
def execAc_0_p12 (s : State) : Result := codeToken 94 s
/-- Ordinal 95. -/
def execAc_0_n12 (s : State) : Result := codeToken 95 s
/-- Ordinal 96. -/
def execAc_0_p13 (s : State) : Result := codeToken 96 s
/-- Ordinal 97. -/
def execAc_0_n13 (s : State) : Result := codeToken 97 s
/-- Ordinal 98. -/
def execAc_0_p14 (s : State) : Result := codeToken 98 s
/-- Ordinal 99. -/
def execAc_0_n14 (s : State) : Result := codeToken 99 s
/-- Ordinal 100. -/
def execAc_0_p15 (s : State) : Result := codeToken 100 s
/-- Ordinal 101. -/
def execAc_0_n15 (s : State) : Result := codeToken 101 s
/-- Ordinal 102. -/
def execAc_1_p6 (s : State) : Result := codeToken 102 s
/-- Ordinal 103. -/
def execAc_1_n6 (s : State) : Result := codeToken 103 s
/-- Ordinal 104. -/
def execAc_1_p7 (s : State) : Result := codeToken 104 s
/-- Ordinal 105. -/
def execAc_1_n7 (s : State) : Result := codeToken 105 s
/-- Ordinal 106. -/
def execAc_2_p5 (s : State) : Result := codeToken 106 s
/-- Ordinal 107. -/
def execAc_2_n5 (s : State) : Result := codeToken 107 s
/-- Ordinal 108. -/
def execAc_3_p4 (s : State) : Result := codeToken 108 s
/-- Ordinal 109. -/
def execAc_3_n4 (s : State) : Result := codeToken 109 s
/-- Ordinal 110. -/
def execAc_5_p3 (s : State) : Result := codeToken 110 s
/-- Ordinal 111. -/
def execAc_5_n3 (s : State) : Result := codeToken 111 s
/-- Ordinal 112. -/
def execAc_9_p2 (s : State) : Result := codeToken 112 s
/-- Ordinal 113. -/
def execAc_9_n2 (s : State) : Result := codeToken 113 s
/-- Ordinal 114. -/
def execAc_10_p2 (s : State) : Result := codeToken 114 s
/-- Ordinal 115. -/
def execAc_10_n2 (s : State) : Result := codeToken 115 s
/-- Ordinal 116. -/
def execAc_22_p1 (s : State) : Result := codeToken 116 s
/-- Ordinal 117. -/
def execAc_22_n1 (s : State) : Result := codeToken 117 s
/-- Ordinal 118. -/
def execAc_23_p1 (s : State) : Result := codeToken 118 s
/-- Ordinal 119. -/
def execAc_23_n1 (s : State) : Result := codeToken 119 s
/-- Ordinal 120. -/
def execAc_24_p1 (s : State) : Result := codeToken 120 s
/-- Ordinal 121. -/
def execAc_24_n1 (s : State) : Result := codeToken 121 s
/-- Ordinal 122. -/
def execAc_25_p1 (s : State) : Result := codeToken 122 s
/-- Ordinal 123. -/
def execAc_25_n1 (s : State) : Result := codeToken 123 s
/-- Ordinal 124. -/
def execAc_26_p1 (s : State) : Result := codeToken 124 s
/-- Ordinal 125. -/
def execAc_26_n1 (s : State) : Result := codeToken 125 s
/-- Ordinal 126. -/
def execAc_0_p16 (s : State) : Result := codeToken 126 s
/-- Ordinal 127. -/
def execAc_0_n16 (s : State) : Result := codeToken 127 s
/-- Ordinal 128. -/
def execAc_0_p17 (s : State) : Result := codeToken 128 s
/-- Ordinal 129. -/
def execAc_0_n17 (s : State) : Result := codeToken 129 s
/-- Ordinal 130. -/
def execAc_0_p18 (s : State) : Result := codeToken 130 s
/-- Ordinal 131. -/
def execAc_0_n18 (s : State) : Result := codeToken 131 s
/-- Ordinal 132. -/
def execAc_0_p19 (s : State) : Result := codeToken 132 s
/-- Ordinal 133. -/
def execAc_0_n19 (s : State) : Result := codeToken 133 s
/-- Ordinal 134. -/
def execAc_0_p20 (s : State) : Result := codeToken 134 s
/-- Ordinal 135. -/
def execAc_0_n20 (s : State) : Result := codeToken 135 s
/-- Ordinal 136. -/
def execAc_0_p21 (s : State) : Result := codeToken 136 s
/-- Ordinal 137. -/
def execAc_0_n21 (s : State) : Result := codeToken 137 s
/-- Ordinal 138. -/
def execAc_0_p22 (s : State) : Result := codeToken 138 s
/-- Ordinal 139. -/
def execAc_0_n22 (s : State) : Result := codeToken 139 s
/-- Ordinal 140. -/
def execAc_0_p23 (s : State) : Result := codeToken 140 s
/-- Ordinal 141. -/
def execAc_0_n23 (s : State) : Result := codeToken 141 s
/-- Ordinal 142. -/
def execAc_0_p24 (s : State) : Result := codeToken 142 s
/-- Ordinal 143. -/
def execAc_0_n24 (s : State) : Result := codeToken 143 s
/-- Ordinal 144. -/
def execAc_0_p25 (s : State) : Result := codeToken 144 s
/-- Ordinal 145. -/
def execAc_0_n25 (s : State) : Result := codeToken 145 s
/-- Ordinal 146. -/
def execAc_0_p26 (s : State) : Result := codeToken 146 s
/-- Ordinal 147. -/
def execAc_0_n26 (s : State) : Result := codeToken 147 s
/-- Ordinal 148. -/
def execAc_0_p27 (s : State) : Result := codeToken 148 s
/-- Ordinal 149. -/
def execAc_0_n27 (s : State) : Result := codeToken 149 s
/-- Ordinal 150. -/
def execAc_0_p28 (s : State) : Result := codeToken 150 s
/-- Ordinal 151. -/
def execAc_0_n28 (s : State) : Result := codeToken 151 s
/-- Ordinal 152. -/
def execAc_0_p29 (s : State) : Result := codeToken 152 s
/-- Ordinal 153. -/
def execAc_0_n29 (s : State) : Result := codeToken 153 s
/-- Ordinal 154. -/
def execAc_0_p30 (s : State) : Result := codeToken 154 s
/-- Ordinal 155. -/
def execAc_0_n30 (s : State) : Result := codeToken 155 s
/-- Ordinal 156. -/
def execAc_0_p31 (s : State) : Result := codeToken 156 s
/-- Ordinal 157. -/
def execAc_0_n31 (s : State) : Result := codeToken 157 s
/-- Ordinal 158. -/
def execAc_0_p32 (s : State) : Result := codeToken 158 s
/-- Ordinal 159. -/
def execAc_0_n32 (s : State) : Result := codeToken 159 s
/-- Ordinal 160. -/
def execAc_0_p33 (s : State) : Result := codeToken 160 s
/-- Ordinal 161. -/
def execAc_0_n33 (s : State) : Result := codeToken 161 s
/-- Ordinal 162. -/
def execAc_0_p34 (s : State) : Result := codeToken 162 s
/-- Ordinal 163. -/
def execAc_0_n34 (s : State) : Result := codeToken 163 s
/-- Ordinal 164. -/
def execAc_0_p35 (s : State) : Result := codeToken 164 s
/-- Ordinal 165. -/
def execAc_0_n35 (s : State) : Result := codeToken 165 s
/-- Ordinal 166. -/
def execAc_0_p36 (s : State) : Result := codeToken 166 s
/-- Ordinal 167. -/
def execAc_0_n36 (s : State) : Result := codeToken 167 s
/-- Ordinal 168. -/
def execAc_0_p37 (s : State) : Result := codeToken 168 s
/-- Ordinal 169. -/
def execAc_0_n37 (s : State) : Result := codeToken 169 s
/-- Ordinal 170. -/
def execAc_0_p38 (s : State) : Result := codeToken 170 s
/-- Ordinal 171. -/
def execAc_0_n38 (s : State) : Result := codeToken 171 s
/-- Ordinal 172. -/
def execAc_0_p39 (s : State) : Result := codeToken 172 s
/-- Ordinal 173. -/
def execAc_0_n39 (s : State) : Result := codeToken 173 s
/-- Ordinal 174. -/
def execAc_0_p40 (s : State) : Result := codeToken 174 s
/-- Ordinal 175. -/
def execAc_0_n40 (s : State) : Result := codeToken 175 s
/-- Ordinal 176. -/
def execAc_1_p8 (s : State) : Result := codeToken 176 s
/-- Ordinal 177. -/
def execAc_1_n8 (s : State) : Result := codeToken 177 s
/-- Ordinal 178. -/
def execAc_1_p9 (s : State) : Result := codeToken 178 s
/-- Ordinal 179. -/
def execAc_1_n9 (s : State) : Result := codeToken 179 s
/-- Ordinal 180. -/
def execAc_1_p10 (s : State) : Result := codeToken 180 s
/-- Ordinal 181. -/
def execAc_1_n10 (s : State) : Result := codeToken 181 s
/-- Ordinal 182. -/
def execAc_1_p11 (s : State) : Result := codeToken 182 s
/-- Ordinal 183. -/
def execAc_1_n11 (s : State) : Result := codeToken 183 s
/-- Ordinal 184. -/
def execAc_1_p12 (s : State) : Result := codeToken 184 s
/-- Ordinal 185. -/
def execAc_1_n12 (s : State) : Result := codeToken 185 s
/-- Ordinal 186. -/
def execAc_1_p13 (s : State) : Result := codeToken 186 s
/-- Ordinal 187. -/
def execAc_1_n13 (s : State) : Result := codeToken 187 s
/-- Ordinal 188. -/
def execAc_1_p14 (s : State) : Result := codeToken 188 s
/-- Ordinal 189. -/
def execAc_1_n14 (s : State) : Result := codeToken 189 s
/-- Ordinal 190. -/
def execAc_1_p15 (s : State) : Result := codeToken 190 s
/-- Ordinal 191. -/
def execAc_1_n15 (s : State) : Result := codeToken 191 s
/-- Ordinal 192. -/
def execAc_1_p16 (s : State) : Result := codeToken 192 s
/-- Ordinal 193. -/
def execAc_1_n16 (s : State) : Result := codeToken 193 s
/-- Ordinal 194. -/
def execAc_1_p17 (s : State) : Result := codeToken 194 s
/-- Ordinal 195. -/
def execAc_1_n17 (s : State) : Result := codeToken 195 s
/-- Ordinal 196. -/
def execAc_1_p18 (s : State) : Result := codeToken 196 s
/-- Ordinal 197. -/
def execAc_1_n18 (s : State) : Result := codeToken 197 s
/-- Ordinal 198. -/
def execAc_6_p3 (s : State) : Result := codeToken 198 s
/-- Ordinal 199. -/
def execAc_6_n3 (s : State) : Result := codeToken 199 s
/-- Ordinal 200. -/
def execAc_11_p2 (s : State) : Result := codeToken 200 s
/-- Ordinal 201. -/
def execAc_11_n2 (s : State) : Result := codeToken 201 s
/-- Ordinal 202. -/
def execAc_12_p2 (s : State) : Result := codeToken 202 s
/-- Ordinal 203. -/
def execAc_12_n2 (s : State) : Result := codeToken 203 s
/-- Ordinal 204. -/
def execAc_13_p2 (s : State) : Result := codeToken 204 s
/-- Ordinal 205. -/
def execAc_13_n2 (s : State) : Result := codeToken 205 s
/-- Ordinal 206. -/
def execAc_14_p2 (s : State) : Result := codeToken 206 s
/-- Ordinal 207. -/
def execAc_14_n2 (s : State) : Result := codeToken 207 s
/-- Ordinal 208. -/
def execAc_15_p2 (s : State) : Result := codeToken 208 s
/-- Ordinal 209. -/
def execAc_15_n2 (s : State) : Result := codeToken 209 s
/-- Ordinal 210. -/
def execAc_16_p2 (s : State) : Result := codeToken 210 s
/-- Ordinal 211. -/
def execAc_16_n2 (s : State) : Result := codeToken 211 s
/-- Ordinal 212. -/
def execAc_27_p1 (s : State) : Result := codeToken 212 s
/-- Ordinal 213. -/
def execAc_27_n1 (s : State) : Result := codeToken 213 s
/-- Ordinal 214. -/
def execAc_28_p1 (s : State) : Result := codeToken 214 s
/-- Ordinal 215. -/
def execAc_28_n1 (s : State) : Result := codeToken 215 s
/-- Ordinal 216. -/
def execAc_29_p1 (s : State) : Result := codeToken 216 s
/-- Ordinal 217. -/
def execAc_29_n1 (s : State) : Result := codeToken 217 s
/-- Ordinal 218. -/
def execAc_30_p1 (s : State) : Result := codeToken 218 s
/-- Ordinal 219. -/
def execAc_30_n1 (s : State) : Result := codeToken 219 s
/-- Ordinal 220. -/
def execAc_31_p1 (s : State) : Result := codeToken 220 s
/-- Ordinal 221. -/
def execAc_31_n1 (s : State) : Result := codeToken 221 s
/-- Ordinal 222. -/
def execEob (s : State) : Result := codeToken 222 s
/-- Ordinal 223. -/
def execEsc (s : State) : Result := codeToken 223 s

end Sys2Proof.Machine
end

