-- ==== Sys2Proof/Machine/Lzss.lean ====
section
/-! DEFINITION. The LZSS unit (46_lzss.md). The pure decompressor and compressor are used by LZ_DECOMP, LZ_COMP, the
Iki header validator and the Iki encoder; the byte tokens of 30_encoding.md R101 are their steps. -/

namespace Sys2Proof.Machine

/-- The bit of a flag byte that governs token i of its group (46_lzss.md R265). -/
def flagBit (o : FlagOrder) (f : Byte) (i : Nat) : Bool :=
  match o with
  | .msbFirst => f.getLsbD (7 - i)
  | .lsbFirst => f.getLsbD i

/-- The flag byte whose bits, in token order, are the given ones; the rest are 0 (46_lzss.md R265, R272). -/
def flagByte (o : FlagOrder) (tokens : List Bool) : Byte :=
  match o with
  | .msbFirst => BitVec.ofNat 8 (ofBits (tokens ++ List.replicate (8 - tokens.length) false))
  | .lsbFirst => BitVec.ofNat 8 (ofBits (tokens.reverse))

/-- The decompressor's registers with the output as a byte list (46_lzss.md R268). -/
structure LzWork where
  sp : Nat
  dst : List Byte
  flags : Byte
  flagI : Nat
deriving DecidableEq, Repr

/-- `repeat L times: append LZ_DST[size(LZ_DST) - d] to LZ_DST` (46_lzss.md R268). -/
def copyBack : Nat → Nat → List Byte → List Byte
  | 0, _, dst => dst
  | n + 1, d, dst => copyBack n d (dst ++ [dst.getD (dst.length - d) 0#8])

/-- A literal token: one source byte copied to the output (46_lzss.md R268). -/
def lzPutLiteral (c : Byte) (w : LzWork) : LzWork := { w with sp := w.sp + 1, dst := w.dst ++ [c] }

/-- The checks of a back-reference whose bytes have been read, distance before size (46_lzss.md R268, R269), and its
copy. -/
def lzPutCopy (dsize len dist : Nat) (w : LzWork) : LzWork × Option LzFault :=
  if w.dst.length < dist then (w, some .badDistance)
  else if dsize < w.dst.length + len then (w, some .overflow)
  else ({ w with dst := copyBack len dist w.dst }, none)

/-- The loop of `LzDecomp` on the source bytes left (46_lzss.md R268); `left` tokens of the current flag byte are still
to come. -/
def lzLoop (o : FlagOrder) (dsize : Nat) : List Byte → Nat → LzWork → LzWork × Option LzFault
  | [], left, w =>
    if dsize ≤ w.dst.length then (w, none)
    else if left = 0 then (w, some .truncated)
    else ({ w with flagI := 8 - left }, some .truncated)
  | b :: rest, left, w =>
    if dsize ≤ w.dst.length then (w, none)
    else
      match left with
      | 0 => lzLoop o dsize rest 8 { w with sp := w.sp + 1, flags := b }
      | n + 1 =>
        let w1 := { w with flagI := 8 - (n + 1) }
        if flagBit o w.flags (8 - (n + 1)) then
          match rest with
          | [] => ({ w1 with sp := w1.sp + 1 }, some .truncated)
          | o0 :: rest2 =>
            if o0.toNat < 0x80 then
              match lzPutCopy dsize (b.toNat + 3) (o0.toNat + 1) { w1 with sp := w1.sp + 2 } with
              | (w2, none) => lzLoop o dsize rest2 n w2
              | (w2, some f) => (w2, some f)
            else
              match rest2 with
              | [] => ({ w1 with sp := w1.sp + 2 }, some .truncated)
              | o1 :: rest3 =>
                match lzPutCopy dsize (b.toNat + 3) ((o0.toNat - 0x80) * 256 + o1.toNat + 1)
                    { w1 with sp := w1.sp + 3 } with
                | (w2, none) => lzLoop o dsize rest3 n w2
                | (w2, some f) => (w2, some f)
        else lzLoop o dsize rest n (lzPutLiteral b w1)

/-- `LzDecomp(S, dsize)`: the registers it leaves and its malformation, if any (46_lzss.md R268, R269). -/
def lzDecomp (o : FlagOrder) (src : List Byte) (dsize : Nat) : LzWork × Option LzFault :=
  lzLoop o dsize src 0 ⟨0, [], 0, 0⟩

/-! ### Compression (46_lzss.md R271 to R273) -/

/-- The length of the match at `pos` with distance d: at most `fuel` bytes agree (46_lzss.md R271). -/
def matchLength (data : List Byte) (pos d : Nat) : Nat → Nat
  | 0 => 0
  | fuel + 1 =>
    if data[pos]? = data[pos - d]? then matchLength data (pos + 1) d fuel + 1 else 0

/-- The longest match among the distances 1..d, of equal lengths the nearest (46_lzss.md R271). -/
def bestMatchTo (data : List Byte) (pos limit : Nat) : Nat → Nat × Nat
  | 0 => (0, 0)
  | d + 1 =>
    let best := bestMatchTo data pos limit d
    let len := matchLength data pos (d + 1) limit
    if best.1 < len then (len, d + 1) else best

/-- `BestMatch(pos)` with the final-3 quirk: length and distance, (0, 0) for none (46_lzss.md R272, R273). -/
def bestMatch (data : List Byte) (pos : Nat) : Nat × Nat :=
  if pos + 3 < data.length then bestMatchTo data pos (min 258 (data.length - pos)) (min pos 32768) else (0, 0)

/-- The bytes of a back-reference token (46_lzss.md R272). -/
def backrefBytes (len dist : Nat) : List Byte :=
  let s := dist - 1
  if s < 0x80 then [BitVec.ofNat 8 (len - 3), BitVec.ofNat 8 s]
  else [BitVec.ofNat 8 (len - 3), BitVec.ofNat 8 (0x80 + s / 256), BitVec.ofNat 8 (s % 256)]

/-- One group of at most `n` tokens from `pos` on: its flags in token order, its bytes, and the position after it
(46_lzss.md R272). -/
def lzGroup (data : List Byte) : Nat → Nat → List Bool × List Byte × Nat
  | 0, pos => ([], [], pos)
  | n + 1, pos =>
    if data.length ≤ pos then ([], [], pos)
    else
      let m := bestMatch data pos
      if 3 ≤ m.1 then
        let g := lzGroup data n (pos + m.1)
        (true :: g.1, backrefBytes m.1 m.2 ++ g.2.1, g.2.2)
      else
        let g := lzGroup data n (pos + 1)
        (false :: g.1, data.getD pos 0#8 :: g.2.1, g.2.2)

/-- The groups from `pos` on; `fuel` bounds their number. -/
def lzGroups (o : FlagOrder) (data : List Byte) : Nat → Nat → List Byte
  | 0, _ => []
  | fuel + 1, pos =>
    if data.length ≤ pos then []
    else
      let g := lzGroup data 8 pos
      flagByte o g.1 :: (g.2.1 ++ lzGroups o data fuel g.2.2)

/-- `LzComp(data)` (46_lzss.md R272). A group covers at least one byte, so the data's length bounds the groups. -/
def lzComp (o : FlagOrder) (data : List Byte) : List Byte := lzGroups o data data.length 0

/-! ### Commands (46_lzss.md R267, R274) -/

/-- The LZSS registers as every LZSS command starts them (10_state.md R39). -/
def lzStart : LzRegs := LzRegs.reset

/-- The registers that hold the decompressor's work. -/
def lzRegs (w : LzWork) : LzRegs := { sp := w.sp, dst := Memory.ofBytes w.dst, flags := w.flags, flagI := w.flagI }

/-- The decompressor's work held in the registers. -/
def lzWork (r : LzRegs) : LzWork := { sp := r.sp, dst := r.dst.toBytes, flags := r.flags, flagI := r.flagI }

/-- LZ_SRC: the source bytes from the start operand on (46_lzss.md R267). -/
def lzSource (o : Operands) : List Byte := o.src.drop o.start

/-- LZ_DECOMP (46_lzss.md R267). -/
def execLzDecomp (s : State) : Result :=
  let o := s.host.operands
  if o.src.length < o.start then violate s .badOperand
  else
    let r := lzDecomp Config.lzssFlagOrder (lzSource o) o.dsize
    let s' := s.clearErr.withLz (lzRegs r.1)
    match r.2 with
    | none => .next (s'.finish (.unpacked r.1.dst r.1.sp))
    | some f => .next (s'.raise .other (excLzss f))

/-- LZ_COMP (46_lzss.md R274); it leaves the LZSS registers as every LZSS command starts them (log 21). -/
def execLzComp (s : State) : Result :=
  .next ((s.clearErr.withLz lzStart).finish (.bytes (lzComp Config.lzssFlagOrder s.host.operands.data)))

/-! ### The byte tokens as instructions (30_encoding.md R101, log 9): the LZSS unit's next token, with LZ_SRC and the
expected size of the operand record. LZ_FLAG_I is the command's loop counter and is not a token's. -/

/-- The unit reads a token only while its output is short of the expected size (46_lzss.md R268, R270). -/
def lzWants (s : State) : Bool := decide (s.lz.dst.size < s.host.operands.dsize)

/-- A byte token where the unit reads one; elsewhere no rule gives it an effect (log 9). -/
def lzToken (s : State) (r : Result) : Result := if lzWants s then r else .refused .tokenOutOfPlace

/-- The source byte at LZ_SP is there (46_lzss.md R268, `Next()`). -/
def lzHasByte (s : State) (ahead : Nat) : Bool :=
  decide (s.lz.sp + ahead < (lzSource s.host.operands).length)

/-- The unit raises with LZ_SP past the bytes it did read. -/
def lzRaise (s : State) (used : Nat) (f : LzFault) : Result :=
  .next ((s.withLz { s.lz with sp := s.lz.sp + used }).raise .other (excLzss f))

/-- A back-reference of `used` bytes (46_lzss.md R268). -/
def lzCopyToken (used len dist : Nat) (s : State) : Result :=
  match lzPutCopy s.host.operands.dsize len dist { lzWork s.lz with sp := s.lz.sp + used } with
  | (w, none) => .next ((s.withLz (lzRegs w)).finish .done)
  | (w, some f) => .next ((s.withLz (lzRegs w)).raise .other (excLzss f))

/-- LZ_FLAG: the flag byte of the next group. -/
def execLzFlag (f : BitVec 8) (s : State) : Result :=
  lzToken s <|
    if lzHasByte s 0 then .next ((s.withLz { s.lz with sp := s.lz.sp + 1, flags := f }).finish .done)
    else lzRaise s 0 .truncated

/-- LZ_LITERAL: one byte copied to the output. -/
def execLzLiteral (c : BitVec 8) (s : State) : Result :=
  lzToken s <|
    if lzHasByte s 0 then .next ((s.withLz (lzRegs (lzPutLiteral c (lzWork s.lz)))).finish .done)
    else lzRaise s 0 .truncated

/-- LZ_BACKREF_SHORT: length − 3 and a one-byte offset. -/
def execLzBackrefShort (len : BitVec 8) (off : BitVec 7) (s : State) : Result :=
  lzToken s <|
    if !lzHasByte s 0 then lzRaise s 0 .truncated
    else if !lzHasByte s 1 then lzRaise s 1 .truncated
    else lzCopyToken 2 (len.toNat + 3) (off.toNat + 1) s

/-- LZ_BACKREF_LONG: length − 3 and a two-byte offset. -/
def execLzBackrefLong (len : BitVec 8) (off : BitVec 15) (s : State) : Result :=
  lzToken s <|
    if !lzHasByte s 0 then lzRaise s 0 .truncated
    else if !lzHasByte s 1 then lzRaise s 1 .truncated
    else if !lzHasByte s 2 then lzRaise s 2 .truncated
    else lzCopyToken 3 (len.toNat + 3) (off.toNat + 1) s

end Sys2Proof.Machine
end

