-- ==== Sys2Proof/Machine/Header.lean ====
section
/-! DEFINITION. The format headers: the validity predicates and frame parameters of the five formats, and the command
HDR_IDENTIFY (42_headers.md). -/

namespace Sys2Proof.Machine

/-- The version field of an STR format (42_headers.md R169). -/
def strVersion : Format → Nat
  | .strv1 => 1
  | .strv2 => 2
  | .strv3 => 3
  | .iki => 0
  | .lain => 0

/-- `u16le(a)` of a header buffer (42_headers.md R167). -/
def u16At (buf : List Byte) (a : Nat) : Nat := byteAt buf a + 256 * byteAt buf (a + 1)

/-- STRv_k validity with its size check (42_headers.md R168, R169). H0 is not checked. -/
def strValid (f : Format) (buf : List Byte) (len : Nat) : Bool :=
  decide (8 ≤ len) && u16At buf 2 == 0x3800 && legalScale (u16At buf 4) && u16At buf 6 == strVersion f

/-- STR frame parameters (42_headers.md R170); the buffer and the fields this format does not use as log 33 says. -/
def strParams (f : Format) (buf : List Byte) (len mbCount : Nat) : FrameParams :=
  { format := f.code, buffer := buf, start := 8, stop := len, mbCount := mbCount, qscale := u16At buf 4 }

/-- The Iki table: the embedded LZSS data decompressed, if it is well formed (42_headers.md R174). -/
def ikiTableOf (buf : List Byte) : Option (List Byte) :=
  let l := ikiLayout
  let src := (buf.drop l.lzOffset).take (readField buf l.csize)
  match lzDecomp Config.lzssFlagOrder src (12 * ikiMbc (readField buf l.width) (readField buf l.height)) with
  | (w, none) => some w.dst
  | (_, some _) => none

/-- Iki validity but for the LZSS data's well-formedness, in the order of 42_headers.md R173. -/
def ikiFieldsValid (buf : List Byte) (len : Nat) : Bool :=
  let l := ikiLayout
  decide (l.lzOffset ≤ len) && readField buf l.magic == l.magicValue && decide (0 < readField buf l.width)
    && decide (0 < readField buf l.height) && readField buf l.csize % 2 == 0
    && decide (l.lzOffset + readField buf l.csize ≤ len)

/-- The Iki frame parameters on a match (42_headers.md R173, R175); the buffer and the fields this format does not use as
log 33 says. -/
def ikiParams (buf : List Byte) (len : Nat) : Option FrameParams :=
  let l := ikiLayout
  if ikiFieldsValid buf len then
    match ikiTableOf buf with
    | some table =>
      some { format := Format.iki.code, buffer := buf, start := ikiBsOffset (readField buf l.csize), stop := len,
             mbCount := ikiMbc (readField buf l.width) (readField buf l.height), ikiTable := table }
    | none => none
  else none

/-- Lain validity (42_headers.md R177); the header is the bytes before the bitstream (log 25). -/
def lainValid (buf : List Byte) (len : Nat) : Bool :=
  let l := lainLayout
  let m := readField buf l.magicOrFrame
  decide (l.bsOffset ≤ len) && legalScale (readField buf l.qLuma) && legalScale (readField buf l.qChroma)
    && readField buf l.version == 0 && (m == 0x3800 || decide (m ≤ 4764))

/-- Lain frame parameters (42_headers.md R178); the buffer and the fields this format does not use as log 33 says. -/
def lainParams (buf : List Byte) (len mbCount : Nat) : FrameParams :=
  { format := Format.lain.code, buffer := buf, start := lainLayout.bsOffset, stop := len, mbCount := mbCount,
    qscaleLuma := readField buf lainLayout.qLuma, qscaleChroma := readField buf lainLayout.qChroma }

/-- The frame parameters of one format, if its validity predicate holds (42_headers.md R165). -/
def identifyAs (f : Format) (buf : List Byte) (len mbCount : Nat) : Option FrameParams :=
  match f with
  | .strv1 => if strValid .strv1 buf len then some (strParams .strv1 buf len mbCount) else none
  | .strv2 => if strValid .strv2 buf len then some (strParams .strv2 buf len mbCount) else none
  | .strv3 => if strValid .strv3 buf len then some (strParams .strv3 buf len mbCount) else none
  | .iki => ikiParams buf len
  | .lain => if lainValid buf len then some (lainParams buf len mbCount) else none

/-- The first format that matches, in the fixed order (42_headers.md R165). -/
def identify (buf : List Byte) (len mbCount : Nat) : Option FrameParams :=
  [Format.strv2, .strv3, .strv1, .iki, .lain].findSome? fun f => identifyAs f buf len mbCount

/-- HDR_IDENTIFY (42_headers.md R179). -/
def execHdrIdentify (s : State) : Result :=
  let o := s.host.operands
  if o.buffer.length < o.length then violate s .badOperand
  else
    match identify o.buffer o.length o.mbCount with
    | some p => .next (s.clearErr.finish (.params p))
    | none => .next (s.clearErr.raise .other excNotRecognized)

end Sys2Proof.Machine
end

