-- ==== Sys2Proof/Machine/Writer.lean ====
section
/-! DEFINITION. The bit writer (40_bit_cursor.md section 3). The encoder uses the same operations (R139). -/

namespace Sys2Proof.Machine

/-- The physical offset of logical byte j (20_memory.md R62). -/
def phys (p : Policy) (j : Nat) : Nat :=
  match p with
  | .le16 => j ^^^ 1
  | .be => j

/-- The logical bytes of a bit list, the last partial byte padded with zero bits; `v` holds the `k` bits of the byte
begun (40_bit_cursor.md R137). -/
def packBits : Bits → Nat → Nat → List Byte
  | [], v, k => if k = 0 then [] else [BitVec.ofNat 8 (v * 2 ^ (8 - k))]
  | b :: bs, v, k =>
    if k = 7 then BitVec.ofNat 8 (2 * v + b.toNat) :: packBits bs 0 0 else packBits bs (2 * v + b.toNat) (k + 1)

/-- The logical bytes, extended with zero bytes to a multiple of the alignment (40_bit_cursor.md R137). -/
def alignedBytes (bits : Bits) (a : Align) : List Byte :=
  let lb := packBits bits 0 0
  lb ++ List.replicate ((alignBytes a - lb.length % alignBytes a) % alignBytes a) 0#8

/-- The bytes of a finalized writer, each logical byte at its physical offset (40_bit_cursor.md R137). `phys` is its
own inverse, so the byte at offset j is logical byte phys(j). -/
def finalBytes (bits : Bits) (p : Policy) (a : Align) : List Byte :=
  let lb := alignedBytes bits a
  (List.range lb.length).map fun j => lb.getD (phys p j) 0#8

/-- The writer as BW_INIT leaves it (40_bit_cursor.md R134). -/
def writerAt (pol : Policy) (a : Align) : WriterRegs := { bits := [], policy := pol, align := a, final := false }

/-- Appends bits. -/
def writeBits (w : WriterRegs) (b : Bits) : WriterRegs := { w with bits := w.bits ++ b }

/-- BW_INIT (40_bit_cursor.md R134). -/
def execBwInit (pol : Policy) (al : BitVec 2) (s : State) : Result :=
  match alignOfCode al with
  | none => violate s .badOperand
  | some a =>
    if pol = .le16 ∧ a = .one then violate s .badOperand
    else .next ((s.withWr (writerAt pol a)).finish .done)

/-- BW_WRITEV (40_bit_cursor.md R135). -/
def execBwWritev (n : BitVec 5) (s : State) : Result :=
  if !legalWidth n then violate s .badWidth
  else if writerClosed s.wr then violate s .writerFinal
  else .next ((s.withWr (writeBits s.wr (toBits n.toNat (lowBits n.toNat s.host.operands.value)))).finish .done)

/-- A character of BW_WRITESTR is '0' or '1' (40_bit_cursor.md R136). -/
def isBitChar (c : Char) : Bool := c == '0' || c == '1'

/-- BW_WRITESTR (40_bit_cursor.md R136). -/
def execBwWritestr (s : State) : Result :=
  let cs := s.host.operands.chars
  if writerClosed s.wr then violate s .writerFinal
  else if !cs.all isBitChar then violate s .badOperand
  else .next ((s.withWr (writeBits s.wr (cs.map fun c => c == '1'))).finish .done)

/-- BW_FINAL (40_bit_cursor.md R137). DESIGN CHOICE, log 32: OUT becomes exactly the bytes of this output; of bytes that an
earlier output left at or beyond its end the spec says nothing, and none of them stays. -/
def execBwFinal (s : State) : Result :=
  if writerClosed s.wr then violate s .writerFinal
  else
    let bytes := finalBytes s.wr.bits s.wr.policy s.wr.align
    .next (((s.withOut (Memory.ofBytes bytes)).withWr { s.wr with final := true }).finish (.bytes bytes))

end Sys2Proof.Machine
end

