-- ==== Sys2Proof/Machine/Encoder.lean ====
section
/-! DEFINITION. The encoder (44_encoder.md). An encode acts on the encoder's and the writer's registers alone, from a
job made of the command's operands; ENC_FRAME and the searches run the same body (45_qscale_search.md R245). -/

namespace Sys2Proof.Machine

/-- What one run of ENC_FRAME's body is asked for (44_encoder.md R221): the command's operands, with PAD_ALIGN,
LZSS_FLAG_ORDER and STR_COUNT_FIELD beside them. -/
structure EncJob where
  fmt : Format
  mbCount : Nat
  qFrame : Nat
  qLuma : Nat
  qChroma : Nat
  mbQ : List Nat
  width : Nat
  height : Nat
  source : List Answer
  align : Align
  order : FlagOrder
  count : Nat → BitVec 16

/-- The registers an encode writes. -/
structure EncSt where
  enc : EncRegs
  wr : WriterRegs
deriving DecidableEq, Repr

/-- What an encode ends in: a frame, or the exception it raises. -/
inductive EncResult where
  | frame (bytes : List Byte)
  | raised (e : Exc)
deriving DecidableEq, Repr

/-- `WriteStr` and `WriteV` inside an encode (40_bit_cursor.md R139). -/
def EncSt.put (st : EncSt) (b : Bits) : EncSt := { st with wr := writeBits st.wr b }

/-! ### Scales (44_encoder.md R221, R223) -/

/-- Every scale operand of the format is in 1..63. -/
def jobScalesLegal (j : EncJob) : Bool :=
  match j.fmt with
  | .strv1 | .strv2 | .strv3 => legalScale j.qFrame
  | .iki => j.mbQ.all legalScale
  | .lain => legalScale j.qLuma && legalScale j.qChroma

/-- The Iki operands: one scale for each macroblock, as many macroblocks as the dimensions give (44_encoder.md R221),
and dimensions that an Iki header can carry, since 44_encoder.md R235 asks that the frame pass the Iki validator
(DESIGN CHOICE, log 17: R221 names no check of its own for it). -/
def ikiJobLegal (j : EncJob) : Bool :=
  j.mbQ.length == j.mbCount && j.mbCount == ikiMbc j.width j.height && ikiDimensionOk ikiLayout.width j.width
    && ikiDimensionOk ikiLayout.height j.height

/-- The operand checks of ENC_FRAME (44_encoder.md R221). -/
def jobLegal (j : EncJob) : Bool := jobScalesLegal j && (j.fmt != .iki || ikiJobLegal j)

/-- The encoder's registers at an encode start; unused scales are 0 (44_encoder.md R221, 10_state.md R37). DESIGN CHOICE,
log 34: ENC_MB_Q is empty at the start of an encode of another format than Iki, whose command has no such list. -/
def encStart (j : EncJob) : EncRegs :=
  { format := j.fmt
    mbCount := j.mbCount
    qFrame := if isStr j.fmt then scaleReg j.qFrame else 0
    qLuma := if j.fmt = .lain then scaleReg j.qLuma else 0
    qChroma := if j.fmt = .lain then scaleReg j.qChroma else 0
    mbQ := if j.fmt = .iki then j.mbQ.map scaleReg else []
    prevCr := 0
    prevCb := 0
    prevY := 0
    codes := 0
    blocks := 0
    table := if j.fmt = .iki then Memory.ofBytes (List.replicate (12 * j.mbCount) 0#8) else Memory.empty }

/-- `Target(fmt, mb, b)` (44_encoder.md R223). -/
def targetScale (e : EncRegs) (mb b : Nat) : Nat :=
  match e.format with
  | .strv1 | .strv2 | .strv3 => e.qFrame.toNat
  | .lain => if isLuma b then e.qLuma.toNat else e.qChroma.toNat
  | .iki => (e.mbQ.getD mb 0).toNat

/-! ### DC (44_encoder.md R225 to R227, R233) -/

/-- `Rnd4(dc)`: the nearest multiple of 4, halves up, clamped to −512..508 (44_encoder.md R226). -/
def rnd4 (dc : Int) : Int := min 508 (max (-512) (4 * ((dc + 2) / 4)))

/-- `bitlen(m)`, 0 for 0 (00_scope.md R11, 44_encoder.md R227). -/
def bitLength (m : Nat) : Nat := if m = 0 then 0 else Nat.log2 m + 1

/-- The differential bits of a size and differential (44_encoder.md R227). -/
def diffBits (size : Nat) (diff : Int) : Bits :=
  toBits size (lowBits size (if 0 < diff then diff else diff + (2 ^ size - 1)))

/-- The bits of an STRv3 differential: size code and differential bits (44_encoder.md R227). -/
def dcV3Bits (luma : Bool) (diff : Int) : Bits :=
  let size := bitLength diff.natAbs
  dcCode luma size ++ diffBits size diff

/-- The STRv3 "previously rounded value" of a block's class (10_state.md R37). -/
def prevRounded (e : EncRegs) (b : Nat) : Int :=
  match blockClass b with
  | .cr => e.prevCr
  | .cb => e.prevCb
  | .y => e.prevY

/-- Writes the "previously rounded value" of a block's class. -/
def setPrevRounded (e : EncRegs) (b : Nat) (r : Int) : EncRegs :=
  match blockClass b with
  | .cr => { e with prevCr := r }
  | .cb => { e with prevCb := r }
  | .y => { e with prevY := r }

/-- STRv3 DC encode (44_encoder.md R227). -/
def encodeDcV3 (b : Nat) (dc : Int) (st : EncSt) : EncSt :=
  let r := rnd4 dc
  let diff := (r - prevRounded st.enc b) / 4
  { enc := setPrevRounded st.enc b r, wr := writeBits st.wr (dcV3Bits (isLuma b) diff) }

/-- Iki DC encode: the start code goes into the table, nothing into the bitstream (44_encoder.md R233). -/
def encodeDcIki (mb b : Nat) (code : MdecCode) (st : EncSt) : EncSt :=
  { st with enc := { st.enc with table := ikiPack (6 * st.enc.mbCount) st.enc.table (6 * mb + b) code } }

/-- `EncodeDc(fmt, mb, b, q, dc)` for the block-start code (44_encoder.md R224, R225). -/
def encodeDc (mb b : Nat) (code : MdecCode) (st : EncSt) : EncSt :=
  match st.enc.format with
  | .strv1 | .strv2 | .lain => st.put (toBits 10 (lowBits 10 (mdecBottom code)))
  | .strv3 => encodeDcV3 b (mdecBottom code) st
  | .iki => encodeDcIki mb b code st

/-! ### AC (44_encoder.md R229 to R231) -/

/-- `LainLevel(level)`: the canonical form, or TooMuchEnergy (44_encoder.md R231). -/
def lainLevelBits (level : Int) : Option Bits :=
  if level = 0 then some (toBits 8 0x00 ++ toBits 8 0x00)
  else if -127 ≤ level ∧ level ≤ 127 then some (toBits 8 (lowBits 8 level))
  else if 128 ≤ level ∧ level ≤ 255 then some (toBits 8 0x00 ++ toBits 8 (lowBits 8 level))
  else if -255 ≤ level ∧ level ≤ -128 then some (toBits 8 0x80 ++ toBits 8 (lowBits 8 (level + 256)))
  else none

/-- `EncodeAc(fmt, run, level)`: the bits written, and the exception raised after them, if any (44_encoder.md R229). -/
def acBits (fmt : Format) (run : Nat) (level : Int) : Bits × Option Exc :=
  let d := dialectOf fmt
  match encodeLookup d run level with
  | some e => (e.bits, none)
  | none =>
    if fmt = .lain then
      match lainLevelBits level with
      | some l => (escBits d ++ toBits 6 run ++ l, none)
      | none => (escBits d ++ toBits 6 run, some (excTooMuchEnergy level))
    else (escBits d ++ toBits 6 run ++ toBits 10 (lowBits 10 level), none)

/-- The AC codes of a block in order, up to the first exception (44_encoder.md R224, R239). -/
def encodeAcs : List MdecCode → EncSt → EncSt × Option Exc
  | [], st => (st, none)
  | c :: cs, st =>
    match acBits st.enc.format (mdecTop c) (mdecBottom c) with
    | (bits, none) => encodeAcs cs (st.put bits)
    | (bits, some e) => (st.put bits, some e)

/-- The end of a block: its EOB code, and the counts (44_encoder.md R224). -/
def finishBlock (len : Nat) (st : EncSt) : EncSt :=
  let st' := st.put (eobBits (dialectOf st.enc.format))
  { st' with enc := { st'.enc with codes := st'.enc.codes + len, blocks := st'.enc.blocks + 1 } }

/-- `EncodeBlock(fmt, mb, b, blk)` (44_encoder.md R224). -/
def encodeBlock (mb b : Nat) (blk : List MdecCode) (st : EncSt) : EncSt × Option Exc :=
  match encodeAcs (acCodes blk) (encodeDc mb b (blk.headD 0) st) with
  | (st', none) => (finishBlock blk.length st', none)
  | (st', some e) => (st', some e)

/-- One block of the frame: the source is asked, its answer checked, its scale checked, then encoded (44_encoder.md
R221, R239). -/
def encodeOne (src : List Answer) (mb b : Nat) (st : EncSt) : EncSt × Option Exc :=
  let q := targetScale st.enc mb b
  let blk := askSource src mb b q
  if !wellFormedBlock blk then (st, some (excContract .badSource))
  else if mdecTop (blk.headD 0) ≠ q then (st, some (excIncompatible (6 * mb + b)))
  else encodeBlock mb b blk st

/-- The blocks of a frame in order (44_encoder.md R221). -/
def blockOrder (mbCount : Nat) : List (Nat × Nat) :=
  (List.range mbCount).flatMap fun mb => (List.range 6).map fun b => (mb, b)

/-- The blocks one after another, up to the first exception. -/
def encodeBlocks (src : List Answer) : List (Nat × Nat) → EncSt → EncSt × Option Exc
  | [], st => (st, none)
  | p :: ps, st =>
    match encodeOne src p.1 p.2 st with
    | (st', none) => encodeBlocks src ps st'
    | (st', some e) => (st', some e)

/-! ### Frame assembly (44_encoder.md R233 to R235) -/

/-- The compressed Iki table, one zero byte longer when its size is odd (44_encoder.md R233). -/
def ikiPackedTable (o : FlagOrder) (table : Memory) : List Byte :=
  let z := lzComp o table.toBytes
  if z.length % 2 = 1 then z ++ [0#8] else z

/-- `BuildFrame(STRv_k, body)` (44_encoder.md R234). -/
def buildStr (j : EncJob) (e : EncRegs) (body : List Byte) : List Byte :=
  u16le (j.count e.codes).toNat ++ u16le 0x3800 ++ u16le e.qFrame.toNat ++ u16le (strVersion j.fmt) ++ body

/-- `BuildFrame(Iki, body)`: the fields where the layout puts them, the table, the body (44_encoder.md R235). -/
def buildIki (j : EncJob) (e : EncRegs) (body : List Byte) : List Byte :=
  let l := ikiLayout
  let z := ikiPackedTable j.order e.table
  let fields := [(l.magic, l.magicValue), (l.width, j.width), (l.height, j.height), (l.csize, z.length)]
  let header := (List.range (ikiBsOffset z.length)).map fun a =>
    match fieldCover fields a with
    | some b => b
    | none =>
      if l.lzOffset ≤ a ∧ a < l.lzOffset + z.length then z.getD (a - l.lzOffset) 0#8
      else Config.headerFiller e.codes a
  header ++ body

/-- `BuildFrame(Lain, body)`: the fields where the layout puts them, then the body (44_encoder.md R235). -/
def buildLain (e : EncRegs) (body : List Byte) : List Byte :=
  let l := lainLayout
  let fields :=
    [(l.qLuma, e.qLuma.toNat), (l.qChroma, e.qChroma.toNat), (l.magicOrFrame, 0x3800), (l.version, 0)]
  let header := (List.range l.bsOffset).map fun a => (fieldCover fields a).getD (Config.headerFiller e.codes a)
  header ++ body

/-- The frame can be assembled: an Iki header's compressed-size field holds the table's size (44_encoder.md R235;
DESIGN CHOICE, log 17). -/
def assembles (j : EncJob) (e : EncRegs) : Bool :=
  j.fmt != .iki || fieldHolds ikiLayout.csize (ikiPackedTable j.order e.table).length

/-- `BuildFrame(fmt, body)`. -/
def buildFrame (j : EncJob) (e : EncRegs) (body : List Byte) : List Byte :=
  match j.fmt with
  | .strv1 | .strv2 | .strv3 => buildStr j e body
  | .iki => buildIki j e body
  | .lain => buildLain e body

/-- The end of a frame: the padding tail, the finalized writer, the frame (44_encoder.md R221, R232); a frame that cannot
be assembled is ContractViolation(BAD_OPERAND) (log 17). -/
def finishFrame (j : EncJob) (st : EncSt) : EncSt × EncResult :=
  let st1 := st.put ((padTail j.fmt).getD [])
  let body := finalBytes st1.wr.bits st1.wr.policy st1.wr.align
  ({ st1 with wr := { st1.wr with final := true } },
    if assembles j st1.enc then .frame (buildFrame j st1.enc body) else .raised (excContract .badOperand))

/-- The body of ENC_FRAME (44_encoder.md R221), from the registers as they stand: an illegal job writes none of them. -/
def encodeFrame (j : EncJob) (st : EncSt) : EncSt × EncResult :=
  if !jobLegal j then (st, .raised (excContract .badOperand))
  else
    match encodeBlocks j.source (blockOrder j.mbCount) ⟨encStart j, writerAt (policyOf j.fmt) j.align⟩ with
    | (st', none) => finishFrame j st'
    | (st', some e) => (st', .raised e)

/-- The registers an encode writes, as the state holds them. -/
def encSt (s : State) : EncSt := ⟨s.enc, s.wr⟩

/-- The state with an encode's registers. -/
def State.withEncSt (s : State) (st : EncSt) : State := (s.withEnc st.enc).withWr st.wr

/-- The job of ENC_FRAME's operands. -/
def frameJob (f : Format) (o : Operands) : EncJob :=
  { fmt := f, mbCount := o.mbCount, qFrame := o.qscale, qLuma := o.qscaleLuma, qChroma := o.qscaleChroma,
    mbQ := o.mbQscale, width := o.width, height := o.height, source := o.source, align := padAlign f,
    order := Config.lzssFlagOrder, count := Config.strCountField }

/-- ENC_FRAME (44_encoder.md R221). A reserved format code is an illegal encoding and changes no other state
(30_encoding.md R107, 60_exceptions.md R287; DESIGN CHOICE over R221 and R293, log 8); every other exception of the command
empties OUT (R293, log 8). -/
def execEncFrame (fmt : BitVec 3) (s : State) : Result :=
  match Format.ofCode fmt with
  | none => violate s .badOperand
  | some f =>
    let j := frameJob f s.host.operands
    if !jobLegal j then .next (s.raise .encoder (excContract .badOperand))
    else
      match encodeFrame j (encSt s) with
      | (st, .frame bytes) =>
        .next (((s.clearErr.withEncSt st).withOut (Memory.ofBytes bytes)).finish (.frame bytes bytes.length))
      | (st, .raised e) => .next ((s.clearErr.withEncSt st).raise .encoder e)

end Sys2Proof.Machine
end

