-- ==== Sys2Proof/Machine/Search.lean ====
section
/-! DEFINITION. The quantization scale searches (45_qscale_search.md). A search acts on the searcher's, the encoder's
and the writer's registers; every attempt is one run of the body of ENC_FRAME (R245). -/

namespace Sys2Proof.Machine

/-- The registers a search writes. -/
structure SearchSt where
  srch : SrchRegs
  st : EncSt
deriving DecidableEq, Repr

/-- What a single-scale search ends in. -/
inductive SearchResult where
  | found (bytes : List Byte) (q : Nat)
  | noFit
  | raised (e : Exc)
deriving DecidableEq, Repr

/-- What the Lain search ends in. -/
inductive LainResult where
  | found (bytes : List Byte) (ql qc : Nat)
  | noFit
  | raised (e : Exc)
deriving DecidableEq, Repr

/-- What the Iki search ends in. -/
inductive IkiResult where
  | found (bytes : List Byte) (mbq : List Nat)
  | noFit
  | raised (e : Exc)
deriving DecidableEq, Repr

/-- An attempt's outcome for a search (45_qscale_search.md R245): a frame within the budget, a frame or an excess of
energy that is passed over, or an exception that ends the search. -/
inductive Attempt where
  | fits (bytes : List Byte)
  | tooBig
  | tooMuch (e : Exc)
  | raises (e : Exc)
deriving DecidableEq, Repr

/-- How a search takes the end of an attempt (45_qscale_search.md R245, 44_encoder.md R236). -/
def judge (budget : Nat) : EncResult → Attempt
  | .frame bytes => if bytes.length ≤ budget then .fits bytes else .tooBig
  | .raised e => if e.code = 4#4 then .tooMuch e else .raises e

/-- The searcher's registers at the start of a search (10_state.md R38, 45_qscale_search.md R246). -/
def searchStart (budget : Nat) : SrchRegs := { q := 0, ql := 0, qc := 0, budget := budget, best := none }

/-! ### Single-scale and partial searches (45_qscale_search.md R248, R250) -/

/-- The attempts of a single-scale search over a list of scales, `job q` being the attempt at scale q. -/
def singleLoop (job : Nat → EncJob) (budget : Nat) : List Nat → SearchSt → SearchSt × SearchResult
  | [], x => (x, .noFit)
  | q :: qs, x =>
    let r := encodeFrame (job q) x.st
    let x' : SearchSt := { srch := { x.srch with q := q }, st := r.1 }
    match judge budget r.2 with
    | .fits bytes => ({ x' with srch := { x'.srch with best := some bytes } }, .found bytes q)
    | .tooBig => singleLoop job budget qs x'
    | .tooMuch _ => singleLoop job budget qs x'
    | .raises e => (x', .raised e)

/-- The scales from a to 63 in ascending order. -/
def scalesFrom (a : Nat) : List Nat := (List.range 64).drop a

/-- The attempt of a search at one scale for the whole frame; for Iki, the same scale for every macroblock
(45_qscale_search.md R248). -/
def singleJob (f : Format) (o : Operands) (q : Nat) : EncJob :=
  { frameJob f o with qFrame := q, mbQ := List.replicate o.mbCount q }

/-- The end of a single-scale search: OUT holds the frame, or is empty (45_qscale_search.md R246). -/
def endSearch (s : State) (r : SearchSt × SearchResult) : State :=
  let s' := (s.clearErr.withSrch r.1.srch).withEncSt r.1.st
  match r.2 with
  | .found bytes q => (s'.withOut (Memory.ofBytes bytes)).finish (.found bytes q)
  | .noFit => (s'.withOut Memory.empty).finish .noFit
  | .raised e => s'.raise .encoder e

/-- The single-scale search from scale a on. -/
def searchFrom (a : Nat) (f : Format) (s : State) : SearchSt × SearchResult :=
  let o := s.host.operands
  singleLoop (singleJob f o) o.budget (scalesFrom a) ⟨searchStart o.budget, encSt s⟩

/-- SRCH_SINGLE (45_qscale_search.md R248). A reserved format code is an illegal encoding and changes no other state
(30_encoding.md R107); Lain is a refused operand of the command, whose exceptions empty OUT (60_exceptions.md R293,
log 8). -/
def execSrchSingle (fmt : BitVec 3) (s : State) : Result :=
  match Format.ofCode fmt with
  | none => violate s .badOperand
  | some f =>
    if f = .lain then .next (s.raise .encoder (excContract .badOperand))
    else .next (endSearch s (searchFrom 1 f s))

/-- SRCH_PARTIAL (45_qscale_search.md R250); a format code as for SRCH_SINGLE. -/
def execSrchPartial (fmt : BitVec 3) (s : State) : Result :=
  match Format.ofCode fmt with
  | none => violate s .badOperand
  | some f =>
    if f = .lain ∨ legalScale s.host.operands.qOrig = false then .next (s.raise .encoder (excContract .badOperand))
    else .next (endSearch s (searchFrom s.host.operands.qOrig f s))

/-! ### Lain dual-scale search (45_qscale_search.md R252, R253) -/

/-- `LAIN_SCALE_STEP(L, C)`; none is EXHAUSTED (45_qscale_search.md R252). -/
def lainScaleStep (l c : Nat) : Option (Nat × Nat) :=
  if l < 63 ∧ (l < 2 * c ∨ c = 63) then some (l + 1, c)
  else if c < 63 then some (l, c + 1)
  else none

/-- The attempt of the Lain search at a pair of scales. -/
def lainJob (o : Operands) (l c : Nat) : EncJob := { frameJob .lain o with qLuma := l, qChroma := c }

/-- The attempts of the Lain search from a pair on. The pair's sum rises by 1 with every step, from 2 to at most 126,
so 125 attempts exhaust it (45_qscale_search.md R247). -/
def lainLoop (job : Nat → Nat → EncJob) (budget : Nat) : Nat → Nat → Nat → SearchSt → SearchSt × LainResult
  | 0, _, _, x => (x, .noFit)
  | fuel + 1, l, c, x =>
    let r := encodeFrame (job l c) x.st
    let x' : SearchSt := { srch := { x.srch with ql := l, qc := c }, st := r.1 }
    match judge budget r.2 with
    | .fits bytes => ({ x' with srch := { x'.srch with best := some bytes } }, .found bytes l c)
    | .raises e => (x', .raised e)
    | .tooBig =>
      match lainScaleStep l c with
      | some n => lainLoop job budget fuel n.1 n.2 x'
      | none => (x', .noFit)
    | .tooMuch e =>
      match lainScaleStep l c with
      | some n => lainLoop job budget fuel n.1 n.2 x'
      | none => (x', .raised e)

/-- SRCH_LAIN (45_qscale_search.md R253). -/
def execSrchLain (s : State) : Result :=
  let o := s.host.operands
  let r := lainLoop (lainJob o) o.budget 125 1 1 ⟨searchStart o.budget, encSt s⟩
  let s' := (s.clearErr.withSrch r.1.srch).withEncSt r.1.st
  match r.2 with
  | .found bytes l c => .next ((s'.withOut (Memory.ofBytes bytes)).finish (.foundLain bytes l c))
  | .noFit => .next ((s'.withOut Memory.empty).finish .noFit)
  | .raised e => .next (s'.raise .encoder e)

/-! ### Iki two-phase search (45_qscale_search.md R254 to R256) -/

/-- Macroblock a comes before macroblock b in phase 2: more energy, then nearer the center, then the lower index
(45_qscale_search.md R254). -/
def mbBefore (energy distance : List Int) (a b : Nat) : Bool :=
  let ea := energy.getD a 0
  let eb := energy.getD b 0
  let da := distance.getD a 0
  let db := distance.getD b 0
  decide (eb < ea) || (ea == eb && (decide (da < db) || (da == db && decide (a < b))))

/-- Puts a macroblock into its place in an ordered list. -/
def mbInsert (energy distance : List Int) (a : Nat) : List Nat → List Nat
  | [] => [a]
  | b :: bs => if mbBefore energy distance a b then a :: b :: bs else b :: mbInsert energy distance a bs

/-- `Order(energy, distance)`: the macroblocks 0..n−1 in phase-2 order (45_qscale_search.md R254). -/
def mbOrder (energy distance : List Int) (n : Nat) : List Nat :=
  (List.range n).foldr (mbInsert energy distance) []

/-- The attempt of the Iki search at a list of macroblock scales. -/
def ikiJob (o : Operands) (mbq : List Nat) : EncJob := { frameJob .iki o with mbQ := mbq }

/-- Phase 2 over the macroblocks still to visit, with the scales and the output kept so far; an exception ends the
search (45_qscale_search.md R255, R256). -/
def ikiPhase2 (job : List Nat → EncJob) (budget : Nat) : List Nat → List Nat → List Byte → EncSt → EncSt × IkiResult
  | [], mbq, best, st => (st, .found best mbq)
  | mb :: mbs, mbq, best, st =>
    if mbq.getD mb 1 = 1 then ikiPhase2 job budget mbs mbq best st
    else
      let lower := mbq.set mb (mbq.getD mb 1 - 1)
      let r := encodeFrame (job lower) st
      match judge budget r.2 with
      | .fits bytes => ikiPhase2 job budget mbs lower bytes r.1
      | .tooBig => (r.1, .found best mbq)
      | .tooMuch _ => (r.1, .found best mbq)
      | .raises e => (r.1, .raised e)

/-- SRCH_IKI after phase 1 (45_qscale_search.md R256). -/
def ikiSearch (o : Operands) (r : SearchSt × SearchResult) : SearchSt × IkiResult :=
  match r.2 with
  | .noFit => (r.1, .noFit)
  | .raised e => (r.1, .raised e)
  | .found best q =>
    let mbq := List.replicate o.mbCount q
    if best.length < o.budget then
      match ikiPhase2 (ikiJob o) o.budget (mbOrder o.energy o.distance o.mbCount) mbq best r.1.st with
      | (st, .found best' mbq') => ({ srch := { r.1.srch with best := some best' }, st := st }, .found best' mbq')
      | (st, res) => ({ r.1 with st := st }, res)
    else (r.1, .found best mbq)

/-- SRCH_IKI (45_qscale_search.md R256). -/
def execSrchIki (s : State) : Result :=
  let o := s.host.operands
  if o.energy.length ≠ o.mbCount ∨ o.distance.length ≠ o.mbCount then
    .next (s.raise .encoder (excContract .badOperand))
  else
    let r := ikiSearch o (searchFrom 1 .iki s)
    let s' := (s.clearErr.withSrch r.1.srch).withEncSt r.1.st
    match r.2 with
    | .found bytes mbq => .next ((s'.withOut (Memory.ofBytes bytes)).finish (.foundIki bytes mbq))
    | .noFit => .next ((s'.withOut Memory.empty).finish .noFit)
    | .raised e => .next (s'.raise .encoder e)

end Sys2Proof.Machine
end

