-- ==== Sys2Proof/Machine/System.lean ====
section
/-! DEFINITION. Power-on reset and the command RESET (70_reset_and_hazards.md R311, R313). -/

namespace Sys2Proof.Machine

/-- Every table of the power-on build passes its invariants, with the given value of LAIN_AC_TABLE
(70_reset_and_hazards.md R311, 41_code_table.md R151), and the value is one 30_encoding.md R90 allows. -/
def buildSucceeds (lain : Nat → CodeMeaning) : Bool :=
  builderOk (bindTable lain) && ((List.range 224).map lain).all legalMeaning && builderOk (codeTable .standard)
    && dcTableOk true && dcTableOk false

/-- POWER-ON RESET with a value of LAIN_AC_TABLE (70_reset_and_hazards.md R311): the state it leaves; none where the
build fails, for the block then never leaves reset and the model rejects the value before it starts (60_exceptions.md
R292, log 10). -/
def powerOn (lain : Nat → CodeMeaning) : Option State := if buildSucceeds lain then some State.reset else none

/-- Every register of the instance at its power-on value; the host's side stays as it is (70_reset_and_hazards.md
R313, R314). -/
def resetRegisters (s : State) : State := { State.reset with host := s.host }

/-- RESET (70_reset_and_hazards.md R313). The read-only tables are constants and the diagnostic list is the host's. -/
def execReset (s : State) : Result := .next ((resetRegisters s).finish .done)

end Sys2Proof.Machine
end

