-- ==== Sys2Proof/Machine/Tokens.lean ====
section
/-! DEFINITION. The tokens with free bits as instructions: DC tokens, escape payloads and padding tails. Each is what
DEC_NEXT does when that token is the next one (43_decoder.md sections 4 to 6): the token's bits are taken from the
stream, and its fields are the values the strategy reads. -/

namespace Sys2Proof.Machine

/-- The decoder stands at a block start of a format with a ten-bit DC (43_decoder.md R185). -/
def atDcTen (s : State) : Bool :=
  s.dec.state == .blockStart && (s.cfg.format == .strv1 || s.cfg.format == .strv2 || s.cfg.format == .lain)

/-- The decoder stands at an STRv3 block start of the given class. -/
def atDcV3 (luma : Bool) (s : State) : Bool :=
  s.dec.state == .blockStart && s.cfg.format == .strv3 && isLuma s.dec.ctxBlock == luma

/-- The decoder stands inside a block of a format with the standard escape (43_decoder.md R185). -/
def atEscStd (s : State) : Bool := s.dec.state == .midBlock && s.cfg.format != .lain

/-- The decoder stands inside a Lain block (43_decoder.md R185). -/
def atEscLain (s : State) : Bool := s.dec.state == .midBlock && s.cfg.format == .lain

/-- The decoder stands at the padding tail of the given format. -/
def atPadding (f : Format) (s : State) : Bool := s.dec.state == .padding && s.cfg.format == f

/-- DC10 (43_decoder.md R189, R193). -/
def execDc10 (v : BitVec 10) (s : State) : Result :=
  tokenAt (atDcTen s) s fun s => readThen 10 s fun _ s' => startBlock (mdec (blockScale s).toNat v.toInt) s'

/-- An STRv3 DC token: size code, then `size` differential bits d (43_decoder.md R191). -/
def dcV3Token (luma : Bool) (size d : Nat) (s : State) : Result :=
  tokenAt (atDcV3 luma s) s fun s =>
    skipThen (dcCode luma size).length s fun s' =>
      if size = 0 then startBlockV3 0 s' else readThen size s' fun _ s'' => startBlockV3 (dcDiff size d) s''

/-- DCV3_LUMA_S0. -/
def execDcv3LumaS0 (s : State) : Result := dcV3Token true 0 0 s
/-- DCV3_LUMA_S1. -/
def execDcv3LumaS1 (d : BitVec 1) (s : State) : Result := dcV3Token true 1 d.toNat s
/-- DCV3_LUMA_S2. -/
def execDcv3LumaS2 (d : BitVec 2) (s : State) : Result := dcV3Token true 2 d.toNat s
/-- DCV3_LUMA_S3. -/
def execDcv3LumaS3 (d : BitVec 3) (s : State) : Result := dcV3Token true 3 d.toNat s
/-- DCV3_LUMA_S4. -/
def execDcv3LumaS4 (d : BitVec 4) (s : State) : Result := dcV3Token true 4 d.toNat s
/-- DCV3_LUMA_S5. -/
def execDcv3LumaS5 (d : BitVec 5) (s : State) : Result := dcV3Token true 5 d.toNat s
/-- DCV3_LUMA_S6. -/
def execDcv3LumaS6 (d : BitVec 6) (s : State) : Result := dcV3Token true 6 d.toNat s
/-- DCV3_LUMA_S7. -/
def execDcv3LumaS7 (d : BitVec 7) (s : State) : Result := dcV3Token true 7 d.toNat s
/-- DCV3_LUMA_S8. -/
def execDcv3LumaS8 (d : BitVec 8) (s : State) : Result := dcV3Token true 8 d.toNat s
/-- DCV3_CHROMA_S0. -/
def execDcv3ChromaS0 (s : State) : Result := dcV3Token false 0 0 s
/-- DCV3_CHROMA_S1. -/
def execDcv3ChromaS1 (d : BitVec 1) (s : State) : Result := dcV3Token false 1 d.toNat s
/-- DCV3_CHROMA_S2. -/
def execDcv3ChromaS2 (d : BitVec 2) (s : State) : Result := dcV3Token false 2 d.toNat s
/-- DCV3_CHROMA_S3. -/
def execDcv3ChromaS3 (d : BitVec 3) (s : State) : Result := dcV3Token false 3 d.toNat s
/-- DCV3_CHROMA_S4. -/
def execDcv3ChromaS4 (d : BitVec 4) (s : State) : Result := dcV3Token false 4 d.toNat s
/-- DCV3_CHROMA_S5. -/
def execDcv3ChromaS5 (d : BitVec 5) (s : State) : Result := dcV3Token false 5 d.toNat s
/-- DCV3_CHROMA_S6. -/
def execDcv3ChromaS6 (d : BitVec 6) (s : State) : Result := dcV3Token false 6 d.toNat s
/-- DCV3_CHROMA_S7. -/
def execDcv3ChromaS7 (d : BitVec 7) (s : State) : Result := dcV3Token false 7 d.toNat s
/-- DCV3_CHROMA_S8. -/
def execDcv3ChromaS8 (d : BitVec 8) (s : State) : Result := dcV3Token false 8 d.toNat s

/-- ESC_STD_PAYLOAD (43_decoder.md R197). -/
def execEscStdPayload (run : BitVec 6) (level : BitVec 10) (s : State) : Result :=
  tokenAt (atEscStd s) s fun s =>
    skipThen 6 s fun s' => skipThen 10 s' fun s'' => placeCode run.toNat level.toInt s''

/-- ESC_LAIN_PAYLOAD_SHORT: the level is the signed byte (43_decoder.md R198). The bytes 0x00 and
0x80 begin a longer form (R96); a term that holds one has no encoding, and the step is the model's (log 9). -/
def execEscLainPayloadShort (run : BitVec 6) (b : BitVec 8) (s : State) : Result :=
  tokenAt (atEscLain s) s fun s =>
    skipThen 6 s fun s' => skipThen 8 s' fun s'' => placeCode run.toNat b.toInt s''

/-- An extended Lain payload: run, extension byte, level byte (43_decoder.md R198). -/
def escLainExtended (run : BitVec 6) (level : Int) (s : State) : Result :=
  tokenAt (atEscLain s) s fun s =>
    skipThen 6 s fun s' => skipThen 8 s' fun s'' => skipThen 8 s'' fun s3 => placeCode run.toNat level s3

/-- ESC_LAIN_PAYLOAD_POS: the level is x (43_decoder.md R198). -/
def execEscLainPayloadPos (run : BitVec 6) (x : BitVec 8) (s : State) : Result :=
  escLainExtended run x.toNat s

/-- ESC_LAIN_PAYLOAD_NEG: the level is x − 256 (43_decoder.md R198). -/
def execEscLainPayloadNeg (run : BitVec 6) (x : BitVec 8) (s : State) : Result :=
  escLainExtended run ((x.toNat : Int) - 256) s

/-- A padding tail that is the format's own (43_decoder.md R205). -/
def padToken (f : Format) (tail : Bits) (s : State) : Result :=
  tokenAt (atPadding f s) s fun s =>
    paddingOutcome (ofBits tail) (takeBits s.frame s.rd 10) (ofBits tail) s

/-- PAD10_STRV2. -/
def execPad10Strv2 (s : State) : Result := padToken .strv2 padTailStrv2 s

/-- PAD10_STRV3. -/
def execPad10Strv3 (s : State) : Result := padToken .strv3 padTailStrv3 s

end Sys2Proof.Machine
end

