-- ==== Sys2Proof/Machine/Dispatch.lean ====
section
/-! DEFINITION. One arm per instruction: the call of its meaning. -/

namespace Sys2Proof.Machine

def exec (i : Instr) (s : State) : Host.Outcome State Fault Refusal :=
  match i with
  | .reset => Sys2Proof.Machine.execReset s
  | .brInit pol => Sys2Proof.Machine.execBrInit pol s
  | .brReadu n => Sys2Proof.Machine.execBrReadu n s
  | .brReads n => Sys2Proof.Machine.execBrReads n s
  | .brPeeku n => Sys2Proof.Machine.execBrPeeku n s
  | .brPeeks n => Sys2Proof.Machine.execBrPeeks n s
  | .brSkip n => Sys2Proof.Machine.execBrSkip n s
  | .brBitsread => Sys2Proof.Machine.execBrBitsread s
  | .brBitsrem => Sys2Proof.Machine.execBrBitsrem s
  | .bwInit pol al => Sys2Proof.Machine.execBwInit pol al s
  | .bwWritev n => Sys2Proof.Machine.execBwWritev n s
  | .bwWritestr => Sys2Proof.Machine.execBwWritestr s
  | .bwFinal => Sys2Proof.Machine.execBwFinal s
  | .ctDecode dia => Sys2Proof.Machine.execCtDecode dia s
  | .ctEncode dia => Sys2Proof.Machine.execCtEncode dia s
  | .hdrIdentify => Sys2Proof.Machine.execHdrIdentify s
  | .decStart fmt => Sys2Proof.Machine.execDecStart fmt s
  | .decNext => Sys2Proof.Machine.execDecNext s
  | .decStatus => Sys2Proof.Machine.execDecStatus s
  | .encFrame fmt => Sys2Proof.Machine.execEncFrame fmt s
  | .srchSingle fmt => Sys2Proof.Machine.execSrchSingle fmt s
  | .srchPartial fmt => Sys2Proof.Machine.execSrchPartial fmt s
  | .srchLain => Sys2Proof.Machine.execSrchLain s
  | .srchIki => Sys2Proof.Machine.execSrchIki s
  | .lzDecomp => Sys2Proof.Machine.execLzDecomp s
  | .lzComp => Sys2Proof.Machine.execLzComp s
  | .ac_0_p1 => Sys2Proof.Machine.execAc_0_p1 s
  | .ac_0_n1 => Sys2Proof.Machine.execAc_0_n1 s
  | .ac_1_p1 => Sys2Proof.Machine.execAc_1_p1 s
  | .ac_1_n1 => Sys2Proof.Machine.execAc_1_n1 s
  | .ac_0_p2 => Sys2Proof.Machine.execAc_0_p2 s
  | .ac_0_n2 => Sys2Proof.Machine.execAc_0_n2 s
  | .ac_2_p1 => Sys2Proof.Machine.execAc_2_p1 s
  | .ac_2_n1 => Sys2Proof.Machine.execAc_2_n1 s
  | .ac_0_p3 => Sys2Proof.Machine.execAc_0_p3 s
  | .ac_0_n3 => Sys2Proof.Machine.execAc_0_n3 s
  | .ac_3_p1 => Sys2Proof.Machine.execAc_3_p1 s
  | .ac_3_n1 => Sys2Proof.Machine.execAc_3_n1 s
  | .ac_4_p1 => Sys2Proof.Machine.execAc_4_p1 s
  | .ac_4_n1 => Sys2Proof.Machine.execAc_4_n1 s
  | .ac_1_p2 => Sys2Proof.Machine.execAc_1_p2 s
  | .ac_1_n2 => Sys2Proof.Machine.execAc_1_n2 s
  | .ac_5_p1 => Sys2Proof.Machine.execAc_5_p1 s
  | .ac_5_n1 => Sys2Proof.Machine.execAc_5_n1 s
  | .ac_6_p1 => Sys2Proof.Machine.execAc_6_p1 s
  | .ac_6_n1 => Sys2Proof.Machine.execAc_6_n1 s
  | .ac_7_p1 => Sys2Proof.Machine.execAc_7_p1 s
  | .ac_7_n1 => Sys2Proof.Machine.execAc_7_n1 s
  | .ac_0_p4 => Sys2Proof.Machine.execAc_0_p4 s
  | .ac_0_n4 => Sys2Proof.Machine.execAc_0_n4 s
  | .ac_2_p2 => Sys2Proof.Machine.execAc_2_p2 s
  | .ac_2_n2 => Sys2Proof.Machine.execAc_2_n2 s
  | .ac_8_p1 => Sys2Proof.Machine.execAc_8_p1 s
  | .ac_8_n1 => Sys2Proof.Machine.execAc_8_n1 s
  | .ac_9_p1 => Sys2Proof.Machine.execAc_9_p1 s
  | .ac_9_n1 => Sys2Proof.Machine.execAc_9_n1 s
  | .ac_0_p5 => Sys2Proof.Machine.execAc_0_p5 s
  | .ac_0_n5 => Sys2Proof.Machine.execAc_0_n5 s
  | .ac_0_p6 => Sys2Proof.Machine.execAc_0_p6 s
  | .ac_0_n6 => Sys2Proof.Machine.execAc_0_n6 s
  | .ac_1_p3 => Sys2Proof.Machine.execAc_1_p3 s
  | .ac_1_n3 => Sys2Proof.Machine.execAc_1_n3 s
  | .ac_3_p2 => Sys2Proof.Machine.execAc_3_p2 s
  | .ac_3_n2 => Sys2Proof.Machine.execAc_3_n2 s
  | .ac_10_p1 => Sys2Proof.Machine.execAc_10_p1 s
  | .ac_10_n1 => Sys2Proof.Machine.execAc_10_n1 s
  | .ac_11_p1 => Sys2Proof.Machine.execAc_11_p1 s
  | .ac_11_n1 => Sys2Proof.Machine.execAc_11_n1 s
  | .ac_12_p1 => Sys2Proof.Machine.execAc_12_p1 s
  | .ac_12_n1 => Sys2Proof.Machine.execAc_12_n1 s
  | .ac_13_p1 => Sys2Proof.Machine.execAc_13_p1 s
  | .ac_13_n1 => Sys2Proof.Machine.execAc_13_n1 s
  | .ac_0_p7 => Sys2Proof.Machine.execAc_0_p7 s
  | .ac_0_n7 => Sys2Proof.Machine.execAc_0_n7 s
  | .ac_1_p4 => Sys2Proof.Machine.execAc_1_p4 s
  | .ac_1_n4 => Sys2Proof.Machine.execAc_1_n4 s
  | .ac_2_p3 => Sys2Proof.Machine.execAc_2_p3 s
  | .ac_2_n3 => Sys2Proof.Machine.execAc_2_n3 s
  | .ac_4_p2 => Sys2Proof.Machine.execAc_4_p2 s
  | .ac_4_n2 => Sys2Proof.Machine.execAc_4_n2 s
  | .ac_5_p2 => Sys2Proof.Machine.execAc_5_p2 s
  | .ac_5_n2 => Sys2Proof.Machine.execAc_5_n2 s
  | .ac_14_p1 => Sys2Proof.Machine.execAc_14_p1 s
  | .ac_14_n1 => Sys2Proof.Machine.execAc_14_n1 s
  | .ac_15_p1 => Sys2Proof.Machine.execAc_15_p1 s
  | .ac_15_n1 => Sys2Proof.Machine.execAc_15_n1 s
  | .ac_16_p1 => Sys2Proof.Machine.execAc_16_p1 s
  | .ac_16_n1 => Sys2Proof.Machine.execAc_16_n1 s
  | .ac_0_p8 => Sys2Proof.Machine.execAc_0_p8 s
  | .ac_0_n8 => Sys2Proof.Machine.execAc_0_n8 s
  | .ac_0_p9 => Sys2Proof.Machine.execAc_0_p9 s
  | .ac_0_n9 => Sys2Proof.Machine.execAc_0_n9 s
  | .ac_0_p10 => Sys2Proof.Machine.execAc_0_p10 s
  | .ac_0_n10 => Sys2Proof.Machine.execAc_0_n10 s
  | .ac_0_p11 => Sys2Proof.Machine.execAc_0_p11 s
  | .ac_0_n11 => Sys2Proof.Machine.execAc_0_n11 s
  | .ac_1_p5 => Sys2Proof.Machine.execAc_1_p5 s
  | .ac_1_n5 => Sys2Proof.Machine.execAc_1_n5 s
  | .ac_2_p4 => Sys2Proof.Machine.execAc_2_p4 s
  | .ac_2_n4 => Sys2Proof.Machine.execAc_2_n4 s
  | .ac_3_p3 => Sys2Proof.Machine.execAc_3_p3 s
  | .ac_3_n3 => Sys2Proof.Machine.execAc_3_n3 s
  | .ac_4_p3 => Sys2Proof.Machine.execAc_4_p3 s
  | .ac_4_n3 => Sys2Proof.Machine.execAc_4_n3 s
  | .ac_6_p2 => Sys2Proof.Machine.execAc_6_p2 s
  | .ac_6_n2 => Sys2Proof.Machine.execAc_6_n2 s
  | .ac_7_p2 => Sys2Proof.Machine.execAc_7_p2 s
  | .ac_7_n2 => Sys2Proof.Machine.execAc_7_n2 s
  | .ac_8_p2 => Sys2Proof.Machine.execAc_8_p2 s
  | .ac_8_n2 => Sys2Proof.Machine.execAc_8_n2 s
  | .ac_17_p1 => Sys2Proof.Machine.execAc_17_p1 s
  | .ac_17_n1 => Sys2Proof.Machine.execAc_17_n1 s
  | .ac_18_p1 => Sys2Proof.Machine.execAc_18_p1 s
  | .ac_18_n1 => Sys2Proof.Machine.execAc_18_n1 s
  | .ac_19_p1 => Sys2Proof.Machine.execAc_19_p1 s
  | .ac_19_n1 => Sys2Proof.Machine.execAc_19_n1 s
  | .ac_20_p1 => Sys2Proof.Machine.execAc_20_p1 s
  | .ac_20_n1 => Sys2Proof.Machine.execAc_20_n1 s
  | .ac_21_p1 => Sys2Proof.Machine.execAc_21_p1 s
  | .ac_21_n1 => Sys2Proof.Machine.execAc_21_n1 s
  | .ac_0_p12 => Sys2Proof.Machine.execAc_0_p12 s
  | .ac_0_n12 => Sys2Proof.Machine.execAc_0_n12 s
  | .ac_0_p13 => Sys2Proof.Machine.execAc_0_p13 s
  | .ac_0_n13 => Sys2Proof.Machine.execAc_0_n13 s
  | .ac_0_p14 => Sys2Proof.Machine.execAc_0_p14 s
  | .ac_0_n14 => Sys2Proof.Machine.execAc_0_n14 s
  | .ac_0_p15 => Sys2Proof.Machine.execAc_0_p15 s
  | .ac_0_n15 => Sys2Proof.Machine.execAc_0_n15 s
  | .ac_1_p6 => Sys2Proof.Machine.execAc_1_p6 s
  | .ac_1_n6 => Sys2Proof.Machine.execAc_1_n6 s
  | .ac_1_p7 => Sys2Proof.Machine.execAc_1_p7 s
  | .ac_1_n7 => Sys2Proof.Machine.execAc_1_n7 s
  | .ac_2_p5 => Sys2Proof.Machine.execAc_2_p5 s
  | .ac_2_n5 => Sys2Proof.Machine.execAc_2_n5 s
  | .ac_3_p4 => Sys2Proof.Machine.execAc_3_p4 s
  | .ac_3_n4 => Sys2Proof.Machine.execAc_3_n4 s
  | .ac_5_p3 => Sys2Proof.Machine.execAc_5_p3 s
  | .ac_5_n3 => Sys2Proof.Machine.execAc_5_n3 s
  | .ac_9_p2 => Sys2Proof.Machine.execAc_9_p2 s
  | .ac_9_n2 => Sys2Proof.Machine.execAc_9_n2 s
  | .ac_10_p2 => Sys2Proof.Machine.execAc_10_p2 s
  | .ac_10_n2 => Sys2Proof.Machine.execAc_10_n2 s
  | .ac_22_p1 => Sys2Proof.Machine.execAc_22_p1 s
  | .ac_22_n1 => Sys2Proof.Machine.execAc_22_n1 s
  | .ac_23_p1 => Sys2Proof.Machine.execAc_23_p1 s
  | .ac_23_n1 => Sys2Proof.Machine.execAc_23_n1 s
  | .ac_24_p1 => Sys2Proof.Machine.execAc_24_p1 s
  | .ac_24_n1 => Sys2Proof.Machine.execAc_24_n1 s
  | .ac_25_p1 => Sys2Proof.Machine.execAc_25_p1 s
  | .ac_25_n1 => Sys2Proof.Machine.execAc_25_n1 s
  | .ac_26_p1 => Sys2Proof.Machine.execAc_26_p1 s
  | .ac_26_n1 => Sys2Proof.Machine.execAc_26_n1 s
  | .ac_0_p16 => Sys2Proof.Machine.execAc_0_p16 s
  | .ac_0_n16 => Sys2Proof.Machine.execAc_0_n16 s
  | .ac_0_p17 => Sys2Proof.Machine.execAc_0_p17 s
  | .ac_0_n17 => Sys2Proof.Machine.execAc_0_n17 s
  | .ac_0_p18 => Sys2Proof.Machine.execAc_0_p18 s
  | .ac_0_n18 => Sys2Proof.Machine.execAc_0_n18 s
  | .ac_0_p19 => Sys2Proof.Machine.execAc_0_p19 s
  | .ac_0_n19 => Sys2Proof.Machine.execAc_0_n19 s
  | .ac_0_p20 => Sys2Proof.Machine.execAc_0_p20 s
  | .ac_0_n20 => Sys2Proof.Machine.execAc_0_n20 s
  | .ac_0_p21 => Sys2Proof.Machine.execAc_0_p21 s
  | .ac_0_n21 => Sys2Proof.Machine.execAc_0_n21 s
  | .ac_0_p22 => Sys2Proof.Machine.execAc_0_p22 s
  | .ac_0_n22 => Sys2Proof.Machine.execAc_0_n22 s
  | .ac_0_p23 => Sys2Proof.Machine.execAc_0_p23 s
  | .ac_0_n23 => Sys2Proof.Machine.execAc_0_n23 s
  | .ac_0_p24 => Sys2Proof.Machine.execAc_0_p24 s
  | .ac_0_n24 => Sys2Proof.Machine.execAc_0_n24 s
  | .ac_0_p25 => Sys2Proof.Machine.execAc_0_p25 s
  | .ac_0_n25 => Sys2Proof.Machine.execAc_0_n25 s
  | .ac_0_p26 => Sys2Proof.Machine.execAc_0_p26 s
  | .ac_0_n26 => Sys2Proof.Machine.execAc_0_n26 s
  | .ac_0_p27 => Sys2Proof.Machine.execAc_0_p27 s
  | .ac_0_n27 => Sys2Proof.Machine.execAc_0_n27 s
  | .ac_0_p28 => Sys2Proof.Machine.execAc_0_p28 s
  | .ac_0_n28 => Sys2Proof.Machine.execAc_0_n28 s
  | .ac_0_p29 => Sys2Proof.Machine.execAc_0_p29 s
  | .ac_0_n29 => Sys2Proof.Machine.execAc_0_n29 s
  | .ac_0_p30 => Sys2Proof.Machine.execAc_0_p30 s
  | .ac_0_n30 => Sys2Proof.Machine.execAc_0_n30 s
  | .ac_0_p31 => Sys2Proof.Machine.execAc_0_p31 s
  | .ac_0_n31 => Sys2Proof.Machine.execAc_0_n31 s
  | .ac_0_p32 => Sys2Proof.Machine.execAc_0_p32 s
  | .ac_0_n32 => Sys2Proof.Machine.execAc_0_n32 s
  | .ac_0_p33 => Sys2Proof.Machine.execAc_0_p33 s
  | .ac_0_n33 => Sys2Proof.Machine.execAc_0_n33 s
  | .ac_0_p34 => Sys2Proof.Machine.execAc_0_p34 s
  | .ac_0_n34 => Sys2Proof.Machine.execAc_0_n34 s
  | .ac_0_p35 => Sys2Proof.Machine.execAc_0_p35 s
  | .ac_0_n35 => Sys2Proof.Machine.execAc_0_n35 s
  | .ac_0_p36 => Sys2Proof.Machine.execAc_0_p36 s
  | .ac_0_n36 => Sys2Proof.Machine.execAc_0_n36 s
  | .ac_0_p37 => Sys2Proof.Machine.execAc_0_p37 s
  | .ac_0_n37 => Sys2Proof.Machine.execAc_0_n37 s
  | .ac_0_p38 => Sys2Proof.Machine.execAc_0_p38 s
  | .ac_0_n38 => Sys2Proof.Machine.execAc_0_n38 s
  | .ac_0_p39 => Sys2Proof.Machine.execAc_0_p39 s
  | .ac_0_n39 => Sys2Proof.Machine.execAc_0_n39 s
  | .ac_0_p40 => Sys2Proof.Machine.execAc_0_p40 s
  | .ac_0_n40 => Sys2Proof.Machine.execAc_0_n40 s
  | .ac_1_p8 => Sys2Proof.Machine.execAc_1_p8 s
  | .ac_1_n8 => Sys2Proof.Machine.execAc_1_n8 s
  | .ac_1_p9 => Sys2Proof.Machine.execAc_1_p9 s
  | .ac_1_n9 => Sys2Proof.Machine.execAc_1_n9 s
  | .ac_1_p10 => Sys2Proof.Machine.execAc_1_p10 s
  | .ac_1_n10 => Sys2Proof.Machine.execAc_1_n10 s
  | .ac_1_p11 => Sys2Proof.Machine.execAc_1_p11 s
  | .ac_1_n11 => Sys2Proof.Machine.execAc_1_n11 s
  | .ac_1_p12 => Sys2Proof.Machine.execAc_1_p12 s
  | .ac_1_n12 => Sys2Proof.Machine.execAc_1_n12 s
  | .ac_1_p13 => Sys2Proof.Machine.execAc_1_p13 s
  | .ac_1_n13 => Sys2Proof.Machine.execAc_1_n13 s
  | .ac_1_p14 => Sys2Proof.Machine.execAc_1_p14 s
  | .ac_1_n14 => Sys2Proof.Machine.execAc_1_n14 s
  | .ac_1_p15 => Sys2Proof.Machine.execAc_1_p15 s
  | .ac_1_n15 => Sys2Proof.Machine.execAc_1_n15 s
  | .ac_1_p16 => Sys2Proof.Machine.execAc_1_p16 s
  | .ac_1_n16 => Sys2Proof.Machine.execAc_1_n16 s
  | .ac_1_p17 => Sys2Proof.Machine.execAc_1_p17 s
  | .ac_1_n17 => Sys2Proof.Machine.execAc_1_n17 s
  | .ac_1_p18 => Sys2Proof.Machine.execAc_1_p18 s
  | .ac_1_n18 => Sys2Proof.Machine.execAc_1_n18 s
  | .ac_6_p3 => Sys2Proof.Machine.execAc_6_p3 s
  | .ac_6_n3 => Sys2Proof.Machine.execAc_6_n3 s
  | .ac_11_p2 => Sys2Proof.Machine.execAc_11_p2 s
  | .ac_11_n2 => Sys2Proof.Machine.execAc_11_n2 s
  | .ac_12_p2 => Sys2Proof.Machine.execAc_12_p2 s
  | .ac_12_n2 => Sys2Proof.Machine.execAc_12_n2 s
  | .ac_13_p2 => Sys2Proof.Machine.execAc_13_p2 s
  | .ac_13_n2 => Sys2Proof.Machine.execAc_13_n2 s
  | .ac_14_p2 => Sys2Proof.Machine.execAc_14_p2 s
  | .ac_14_n2 => Sys2Proof.Machine.execAc_14_n2 s
  | .ac_15_p2 => Sys2Proof.Machine.execAc_15_p2 s
  | .ac_15_n2 => Sys2Proof.Machine.execAc_15_n2 s
  | .ac_16_p2 => Sys2Proof.Machine.execAc_16_p2 s
  | .ac_16_n2 => Sys2Proof.Machine.execAc_16_n2 s
  | .ac_27_p1 => Sys2Proof.Machine.execAc_27_p1 s
  | .ac_27_n1 => Sys2Proof.Machine.execAc_27_n1 s
  | .ac_28_p1 => Sys2Proof.Machine.execAc_28_p1 s
  | .ac_28_n1 => Sys2Proof.Machine.execAc_28_n1 s
  | .ac_29_p1 => Sys2Proof.Machine.execAc_29_p1 s
  | .ac_29_n1 => Sys2Proof.Machine.execAc_29_n1 s
  | .ac_30_p1 => Sys2Proof.Machine.execAc_30_p1 s
  | .ac_30_n1 => Sys2Proof.Machine.execAc_30_n1 s
  | .ac_31_p1 => Sys2Proof.Machine.execAc_31_p1 s
  | .ac_31_n1 => Sys2Proof.Machine.execAc_31_n1 s
  | .eob => Sys2Proof.Machine.execEob s
  | .esc => Sys2Proof.Machine.execEsc s
  | .dc10 v => Sys2Proof.Machine.execDc10 v s
  | .dcv3LumaS0 => Sys2Proof.Machine.execDcv3LumaS0 s
  | .dcv3LumaS1 d => Sys2Proof.Machine.execDcv3LumaS1 d s
  | .dcv3LumaS2 d => Sys2Proof.Machine.execDcv3LumaS2 d s
  | .dcv3LumaS3 d => Sys2Proof.Machine.execDcv3LumaS3 d s
  | .dcv3LumaS4 d => Sys2Proof.Machine.execDcv3LumaS4 d s
  | .dcv3LumaS5 d => Sys2Proof.Machine.execDcv3LumaS5 d s
  | .dcv3LumaS6 d => Sys2Proof.Machine.execDcv3LumaS6 d s
  | .dcv3LumaS7 d => Sys2Proof.Machine.execDcv3LumaS7 d s
  | .dcv3LumaS8 d => Sys2Proof.Machine.execDcv3LumaS8 d s
  | .dcv3ChromaS0 => Sys2Proof.Machine.execDcv3ChromaS0 s
  | .dcv3ChromaS1 d => Sys2Proof.Machine.execDcv3ChromaS1 d s
  | .dcv3ChromaS2 d => Sys2Proof.Machine.execDcv3ChromaS2 d s
  | .dcv3ChromaS3 d => Sys2Proof.Machine.execDcv3ChromaS3 d s
  | .dcv3ChromaS4 d => Sys2Proof.Machine.execDcv3ChromaS4 d s
  | .dcv3ChromaS5 d => Sys2Proof.Machine.execDcv3ChromaS5 d s
  | .dcv3ChromaS6 d => Sys2Proof.Machine.execDcv3ChromaS6 d s
  | .dcv3ChromaS7 d => Sys2Proof.Machine.execDcv3ChromaS7 d s
  | .dcv3ChromaS8 d => Sys2Proof.Machine.execDcv3ChromaS8 d s
  | .escStdPayload run level => Sys2Proof.Machine.execEscStdPayload run level s
  | .escLainPayloadShort run b => Sys2Proof.Machine.execEscLainPayloadShort run b s
  | .escLainPayloadPos run x => Sys2Proof.Machine.execEscLainPayloadPos run x s
  | .escLainPayloadNeg run x => Sys2Proof.Machine.execEscLainPayloadNeg run x s
  | .pad10Strv2 => Sys2Proof.Machine.execPad10Strv2 s
  | .pad10Strv3 => Sys2Proof.Machine.execPad10Strv3 s
  | .lzFlag f => Sys2Proof.Machine.execLzFlag f s
  | .lzLiteral c => Sys2Proof.Machine.execLzLiteral c s
  | .lzBackrefShort len off => Sys2Proof.Machine.execLzBackrefShort len off s
  | .lzBackrefLong len off => Sys2Proof.Machine.execLzBackrefLong len off s

end Sys2Proof.Machine
end

