-- ==== Sys2Proof/Machine/Fetch.lean ====
section
/-! DEFINITION. How one instruction is put where the next step takes it. A command stands at the head of the host's
command stream; a token stands at the cursor of a decode, or in the source of an LZ_DECOMP, with the command that
reads it at the head of the stream (log 1, log 28). -/

namespace Sys2Proof.Machine

/-- A decode that stands before the given bits with `done` blocks behind it, as a DEC_START of a one-macroblock frame and
those blocks would have left it, and a DEC_NEXT issued. The bits are followed by zeros. -/
def State.placeBits (s : State) (f : Format) (st : DecState) (done : Nat) (bits : Bits) : State :=
  let buf := finalBytes (bits ++ List.replicate 24 false) (policyOf f) .two
  let p : FrameParams :=
    { format := f.code, buffer := buf, start := 0, stop := buf.length, mbCount := 1, qscale := 1, qscaleLuma := 1,
      qscaleChroma := 1 }
  let s' := startFrame f p s
  (s'.withDec { s'.dec with state := st, ctxBlock := done % 6, ctxMb := done / 6, ctxBlocks := done }).issue 0x5100#16

/-- The bytes of a bit string that fills whole bytes. -/
def wholeBytes (bits : Bits) : List Byte := packBits bits 0 0

/-- An LZ_DECOMP issued over the given source. -/
def State.placeSource (s : State) (src : List Byte) (dsize : Nat) : State :=
  (s.withHost { s.host with operands := { s.host.operands with src := src, start := 0, dsize := dsize } }).issue 0x8000#16

/-- Groups of eight zero literals. -/
def literalGroups : Nat → List Byte
  | 0 => []
  | n + 1 => List.replicate 9 0#8 ++ literalGroups n

/-- An LZ_DECOMP whose first back-reference is the given token: literals enough for its distance, then a group that
opens with it. Both flag bytes read alike under either flag order. -/
def State.placeBackref (s : State) (bits : Bits) (len dist : Nat) : State :=
  let groups := (dist + 7) / 8
  s.placeSource (literalGroups groups ++ 0xFF#8 :: wholeBytes bits) (8 * groups + len)

/-- The state in which the next step runs instruction i. -/
def State.placeInstr (s : State) (i : Instr) : State :=
  match i.position with
  | .command => s.issue (BitVec.ofNat 16 (ofBits (encode i)))
  | .code => s.placeBits .strv1 .midBlock 0 (encode i)
  | .dcTen => s.placeBits .strv1 .blockStart 0 (encode i)
  | .dcLuma => s.placeBits .strv3 .blockStart 2 (encode i)
  | .dcChroma => s.placeBits .strv3 .blockStart 0 (encode i)
  | .escStd => s.placeBits .strv1 .midBlock 0 (escBits .standard ++ encode i)
  | .escLain => s.placeBits .lain .midBlock 0 (escBits .lain ++ encode i)
  | .padStrv2 => s.placeBits .strv2 .padding 6 (encode i)
  | .padStrv3 => s.placeBits .strv3 .padding 6 (encode i)
  | .lzFlag => s.placeSource (wholeBytes (encode i) ++ List.replicate 24 0#8) 1
  | .lzLiteral => s.placeSource (0x00#8 :: wholeBytes (encode i)) 1
  | .lzBackref =>
    match i with
    | .lzBackrefShort len off => s.placeBackref (encode i) (len.toNat + 3) (off.toNat + 1)
    | .lzBackrefLong len off => s.placeBackref (encode i) (len.toNat + 3) (off.toNat + 1)
    | _ => s

end Sys2Proof.Machine
end

