-- ==== Sys2Proof/Machine/Step.lean ====
section
/-! DEFINITION. The step: the next command of the host's stream is taken, decoded and performed to its end
(00_scope.md R15, 10_state.md R48). -/

namespace Sys2Proof.Machine

/-- One step. While the host has issued nothing the block waits (70_reset_and_hazards.md R315); a word that is no
command raises ContractViolation (60_exceptions.md R287). -/
def step (s : State) : Host.Outcome State Fault Refusal :=
  match s.fetch with
  | none => .next s
  | some (w, s') =>
    match decodeCommand w with
    | .run i => exec i s'
    | .reject why => .next (s'.rejectCommand why)

/-- The state with the instruction of an opcode-table word put where the next step takes it (log 1, log 28); a word
that is no instruction is issued as a command word. -/
def State.withFetchWord (s : State) (nbits w : Nat) : State :=
  match decodeTableWord nbits w with
  | some i => s.placeInstr i
  | none => s.issue (BitVec.ofNat 16 w)

end Sys2Proof.Machine
end

