-- ==== Sys2Proof/Safety.lean ====
section
/-! DEFINITION. What a sound state of the block is, unit by unit: the invariants the spec states of its registers,
in the terms the claims use. -/

namespace Sys2Proof.Machine

/-- Every byte space is in its canonical form, and the two Iki tables have the size their unit's registers give
(10_state.md R26, R37; 20_memory.md R60). -/
structure SpacesOk (s : State) : Prop where
  frame : s.frame.wf = true
  ikiTable : s.ikiTable.wf = true
  out : s.out.wf = true
  lzDst : s.lz.dst.wf = true
  encTable : s.enc.table.wf = true
  ikiTableSize : s.ikiTable.size = if s.cfg.format = .iki then 12 * s.cfg.mbCount else 0
  encTableSize : s.enc.table.size = if s.enc.format = .iki then 12 * s.enc.mbCount else 0

/-- The reader's registers (10_state.md R27, R28): the stream lies inside FRAME, the cursor inside the stream at a
whole number of words, and the bits left are those of a loaded word. -/
structure ReaderOk (s : State) : Prop where
  startLe : s.rd.start ≤ s.rd.offset
  offsetLe : s.rd.offset ≤ s.rd.stop
  stopLe : s.rd.stop ≤ s.frame.size
  even : (s.rd.offset - s.rd.start) % 2 = 0
  bitsLeftLe : s.rd.bitsLeft ≤ 16
  loaded : s.rd.bitsLeft ≤ 8 * (s.rd.offset - s.rd.start)

/-- The block counts fit the decoder's state (43_decoder.md R203, R204, R210). -/
def blocksFit (s : State) : Prop :=
  match s.dec.state with
  | .idle => s.dec.ctxBlocks = 0
  | .blockStart => s.dec.ctxBlocks < 6 * s.cfg.mbCount ∧ s.dec.vpos = 0
  | .midBlock => s.dec.ctxBlocks < 6 * s.cfg.mbCount
  | .padding => s.dec.ctxBlocks = 6 * s.cfg.mbCount ∧ (padTail s.cfg.format).isSome = true
  | .done => s.dec.ctxBlocks = 6 * s.cfg.mbCount
  | .fault => s.dec.ctxBlocks < 6 * s.cfg.mbCount

/-- The decode context and state machine (10_state.md R31 to R36, R47; 43_decoder.md R210). -/
structure DecoderOk (s : State) : Prop where
  block : s.dec.ctxBlock < 6
  counts : s.dec.ctxBlocks = 6 * s.dec.ctxMb + s.dec.ctxBlock
  codes : 2 * s.dec.ctxBlocks + (if s.dec.state = .midBlock then 1 else 0) ≤ s.dec.ctxCodes
  vpos : s.dec.vpos < 64
  fits : blocksFit s
  predCr : s.dec.predCr.toInt % 4 = 0
  predCb : s.dec.predCb.toInt % 4 = 0
  predY : s.dec.predY.toInt % 4 = 0
  fault : if s.dec.state = .fault then s.dec.faultCode = 2#4 ∨ s.dec.faultCode = 3#4
    else s.dec.faultCode = 0#4 ∧ s.dec.faultInfo = 0
  checked : s.dec.padStatus ≠ .notChecked → s.dec.state = .done

/-- The error registers (10_state.md R42, 60_exceptions.md R286). -/
structure ErrorsOk (s : State) : Prop where
  code : s.err.code.toNat ≤ 7
  noInfo : s.err.code = 0#4 → s.err.info = 0
  warning : s.err.warnPadding = true ↔ s.dec.padStatus = .mismatch

/-- The writer never combines the word-swapped policy with one-byte alignment (40_bit_cursor.md R134). -/
def WriterOk (s : State) : Prop := s.wr.policy = .le16 → s.wr.align ≠ .one

/-- A value `Rnd4` can give (44_encoder.md R226). -/
def Rounded (r : Int) : Prop := -512 ≤ r ∧ r ≤ 508 ∧ r % 4 = 0

/-- The encoder's registers (10_state.md R37). -/
structure EncoderOk (s : State) : Prop where
  prevCr : Rounded s.enc.prevCr
  prevCb : Rounded s.enc.prevCb
  prevY : Rounded s.enc.prevY
  scales : s.enc.mbQ.length = if s.enc.format = .iki then s.enc.mbCount else 0
  blocks : s.enc.blocks ≤ 6 * s.enc.mbCount
  codes : 2 * s.enc.blocks ≤ s.enc.codes

/-- The searcher's registers: scales in range, and a kept output fits its budget (10_state.md R38; 45_qscale_search.md
R246). -/
structure SearcherOk (s : State) : Prop where
  q : s.srch.q ≤ 64
  ql : s.srch.ql ≤ 64
  qc : s.srch.qc ≤ 64
  best : ∀ b, s.srch.best = some b → b.length ≤ s.srch.budget

/-- The LZSS unit's registers (10_state.md R39). -/
def LzOk (s : State) : Prop := s.lz.flagI ≤ 8

/-- Every unit is sound. -/
structure Sound (s : State) : Prop where
  spaces : SpacesOk s
  reader : ReaderOk s
  decoder : DecoderOk s
  errors : ErrorsOk s
  writer : WriterOk s
  encoder : EncoderOk s
  searcher : SearcherOk s
  lz : LzOk s

/-! ### What the claims speak of -/

/-- The stream bits the reader has still to deliver (40_bit_cursor.md R122). -/
def ahead (s : State) : Bits := remainingBits s.frame s.rd

/-- Reader registers n bits further in the stream of s: only the offset, the word and the bits left have changed. -/
structure Advanced (s : State) (n : Nat) (r : ReaderRegs) : Prop where
  regs : r = { s.rd with offset := r.offset, word := r.word, bitsLeft := r.bitsLeft }
  count : bitsRead r = bitsRead s.rd + n
  rest : remainingBits s.frame r = (ahead s).drop n
  sound : ReaderOk (s.withRd r)

/-- s with a report to the host and nothing else changed. -/
def answered (s : State) (r : Reply) : State := { s with host := { s.host with reply := r, codeOut := none } }

/-- s after an exception that no decode and no encode raised (60_exceptions.md R293): the error registers, the report
and one diagnostic entry. -/
def refusedWith (s : State) (code : BitVec 4) (info : Int) (value : Option Int) : State :=
  { s with
    err := { s.err with code := code, info := info }
    host := { s.host with
      diag := s.host.diag ++ [⟨.exception code, info⟩], reply := .exception code info value, codeOut := none } }

/-- s after a ContractViolation of the given sub-code (60_exceptions.md R286, R287). -/
def violated (s : State) (sub : Int) : State := refusedWith s 6#4 sub none

/-- s after an exception of ENC_FRAME or a search, with OUT left empty (60_exceptions.md R293). -/
def encodeFailed (s : State) (code : BitVec 4) (info : Int) : State :=
  { refusedWith s code info none with out := Memory.empty }

/-- s after a step that emitted c, the reader at r and the decoder at d but for the code count (43_decoder.md R188). -/
def emitted (s : State) (r : ReaderRegs) (d : DecRegs) (c : MdecCode) : State :=
  { s with
    rd := r
    dec := { d with ctxCodes := s.dec.ctxCodes + 1 }
    host := { s.host with reply := .mdec c, codeOut := some (.code c) } }

/-- s after a step that faulted the decoder, the reader at r (43_decoder.md R208). -/
def faulted (s : State) (r : ReaderRegs) (code : BitVec 4) (info : Int) : State :=
  { s with
    rd := r
    dec := { s.dec with faultCode := code, faultInfo := info, state := .fault }
    err := { s.err with code := code, info := info }
    host := { s.host with
      diag := s.host.diag ++ [⟨.exception code, info⟩], reply := .exception code info none, codeOut := none } }

/-- The opcode map: each op with the immediate bits its command names (30_encoding.md R103, R104). -/
def opcodeMap : List (BitVec 8 × BitVec 8) :=
  [(0x01, 0x00), (0x10, 0x01), (0x11, 0x1f), (0x12, 0x1f), (0x13, 0x1f), (0x14, 0x1f), (0x15, 0x1f), (0x16, 0x00),
   (0x17, 0x00), (0x20, 0x07), (0x21, 0x1f), (0x22, 0x00), (0x23, 0x00), (0x30, 0x01), (0x31, 0x01), (0x40, 0x00),
   (0x50, 0x07), (0x51, 0x00), (0x52, 0x00), (0x60, 0x07), (0x70, 0x07), (0x71, 0x07), (0x72, 0x00), (0x73, 0x00),
   (0x80, 0x00), (0x81, 0x00)]

/-- Class, size and differential bits of an STRv3 DC token: `DCV3_LUMA_S0` to `S8` and `DCV3_CHROMA_S0` to `S8`
(30_encoding.md R92). -/
def dcV3Fields : Instr → Option (Bool × Nat × Nat)
  | .dcv3LumaS0 => some (true, 0, 0)
  | .dcv3LumaS1 d => some (true, 1, d.toNat)
  | .dcv3LumaS2 d => some (true, 2, d.toNat)
  | .dcv3LumaS3 d => some (true, 3, d.toNat)
  | .dcv3LumaS4 d => some (true, 4, d.toNat)
  | .dcv3LumaS5 d => some (true, 5, d.toNat)
  | .dcv3LumaS6 d => some (true, 6, d.toNat)
  | .dcv3LumaS7 d => some (true, 7, d.toNat)
  | .dcv3LumaS8 d => some (true, 8, d.toNat)
  | .dcv3ChromaS0 => some (false, 0, 0)
  | .dcv3ChromaS1 d => some (false, 1, d.toNat)
  | .dcv3ChromaS2 d => some (false, 2, d.toNat)
  | .dcv3ChromaS3 d => some (false, 3, d.toNat)
  | .dcv3ChromaS4 d => some (false, 4, d.toNat)
  | .dcv3ChromaS5 d => some (false, 5, d.toNat)
  | .dcv3ChromaS6 d => some (false, 6, d.toNat)
  | .dcv3ChromaS7 d => some (false, 7, d.toNat)
  | .dcv3ChromaS8 d => some (false, 8, d.toNat)
  | _ => none

/-- Run and level of an escape payload, `ESC_STD_PAYLOAD`, `ESC_LAIN_PAYLOAD_SHORT`, `_POS` and `_NEG`
(30_encoding.md R95, R96). -/
def payloadFields : Instr → Option (Nat × Int)
  | .escStdPayload run level => some (run.toNat, level.toInt)
  | .escLainPayloadShort run b => some (run.toNat, b.toInt)
  | .escLainPayloadPos run x => some (run.toNat, (x.toNat : Int))
  | .escLainPayloadNeg run x => some (run.toNat, (x.toNat : Int) - 256)
  | _ => none

/-- Where an escape payload stands in a format (43_decoder.md R185). -/
def payloadPosition (f : Format) : Position := if f = .lain then .escLain else .escStd

/-- The tokens of the frame bitstream: every instruction that is neither a host command nor an LZSS byte token. -/
def isBitstreamToken (i : Instr) : Bool :=
  match i.position with
  | .command | .lzFlag | .lzLiteral | .lzBackref => false
  | .code | .dcTen | .dcLuma | .dcChroma | .escStd | .escLain | .padStrv2 | .padStrv3 => true

/-- DEC_NEXT and the tokens it performs. -/
def isDecoding (i : Instr) : Bool := i == .decNext || isBitstreamToken i

/-- RESET and DEC_START. -/
def startsAfresh : Instr → Bool
  | .reset | .decStart _ => true
  | _ => false

/-- ENC_FRAME and the four searches. -/
def isEncoding : Instr → Bool
  | .encFrame _ | .srchSingle _ | .srchPartial _ | .srchLain | .srchIki => true
  | _ => false

/-- The four searches. -/
def isSearch : Instr → Bool
  | .srchSingle _ | .srchPartial _ | .srchLain | .srchIki => true
  | _ => false

/-- The reader commands that move or reset the cursor. -/
def movesCursor : Instr → Bool
  | .brInit _ | .brReadu _ | .brReads _ | .brSkip _ => true
  | _ => false

/-- The writer commands. -/
def isWriting : Instr → Bool
  | .bwInit _ _ | .bwWritev _ | .bwWritestr | .bwFinal => true
  | _ => false

/-- The LZSS commands and byte tokens. -/
def isLzss : Instr → Bool
  | .lzDecomp | .lzComp | .lzFlag _ | .lzLiteral _ | .lzBackrefShort _ _ | .lzBackrefLong _ _ => true
  | _ => false

/-- A source answer that an encode at scale q takes and writes out (44_encoder.md R222, R223, R231). -/
def goodAnswer (f : Format) (q : Nat) (blk : List MdecCode) : Prop :=
  wellFormedBlock blk = true ∧ mdecTop (blk.headD 0) = q ∧
    (f = .lain → ∀ c ∈ acCodes blk, encodeLookup .lain (mdecTop c) (mdecBottom c) = none →
      -255 ≤ mdecBottom c ∧ mdecBottom c ≤ 255)

/-- The scale the operands ask for in block b of macroblock mb (44_encoder.md R223). -/
def askedScale (f : Format) (o : Operands) (mb b : Nat) : Nat :=
  match f with
  | .strv1 | .strv2 | .strv3 => o.qscale
  | .iki => o.mbQscale.getD mb 0
  | .lain => if 2 ≤ b then o.qscaleLuma else o.qscaleChroma

/-- The operands ENC_FRAME takes (44_encoder.md R221); an Iki header must be able to carry the dimensions (R235,
log 17). -/
def legalEncode (f : Format) (o : Operands) : Prop :=
  match f with
  | .strv1 | .strv2 | .strv3 => 1 ≤ o.qscale ∧ o.qscale ≤ 63
  | .iki => (∀ q ∈ o.mbQscale, 1 ≤ q ∧ q ≤ 63) ∧ o.mbQscale.length = o.mbCount ∧ o.mbCount = ikiMbc o.width o.height ∧
      (0 < o.width ∧ o.width < 256 ^ ikiLayout.width.width) ∧ 0 < o.height ∧ o.height < 256 ^ ikiLayout.height.width
  | .lain => 1 ≤ o.qscaleLuma ∧ o.qscaleLuma ≤ 63 ∧ 1 ≤ o.qscaleChroma ∧ o.qscaleChroma ≤ 63

/-- The encoder's and the writer's registers after the blocks of a frame, each encoded in turn from the start of the
encode (44_encoder.md R221, R224). -/
def blocksEncoded (f : Format) (o : Operands) : EncSt :=
  (blockOrder o.mbCount).foldl
    (fun st p => (encodeBlock p.1 p.2 (askSource o.source p.1 p.2 (askedScale f o p.1 p.2)) st).1)
    ⟨encStart (frameJob f o), writerAt (policyOf f) (padAlign f)⟩

/-- The writer's registers at the end of a frame: the blocks' bits, then the format's padding tail, finalized
(44_encoder.md R221, R232). -/
def frameWriter (f : Format) (o : Operands) : WriterRegs :=
  { (blocksEncoded f o).wr with bits := (blocksEncoded f o).wr.bits ++ (padTail f).getD [], final := true }

/-- The frame of the operands (44_encoder.md R221, R233 to R235). -/
def frameBytes (f : Format) (o : Operands) : List Byte :=
  let w := frameWriter f o
  buildFrame (frameJob f o) (blocksEncoded f o).enc (finalBytes w.bits w.policy w.align)

/-- An Iki frame's compressed-size field holds the size of its compressed table (44_encoder.md R235, log 17). -/
def tableFits (f : Format) (o : Operands) : Prop :=
  f = .iki →
    (ikiPackedTable Config.lzssFlagOrder (blocksEncoded f o).enc.table).length < 256 ^ ikiLayout.csize.width

/-- What the attempt of a job gives, whatever the registers hold (45_qscale_search.md R245). -/
def attempt (j : EncJob) : EncResult := (encodeFrame j ⟨EncRegs.reset, WriterRegs.reset⟩).2

/-- An attempt that a search passes over: too big for the budget, or too much energy (45_qscale_search.md R245). -/
def passedOver (budget : Nat) (j : EncJob) : Prop :=
  (∃ bytes, attempt j = .frame bytes ∧ budget < bytes.length) ∨ ∃ info, attempt j = .raised ⟨4#4, info⟩

/-- An attempt that fits (45_qscale_search.md R245, 44_encoder.md R236). -/
def fitsAs (budget : Nat) (j : EncJob) (bytes : List Byte) : Prop :=
  attempt j = .frame bytes ∧ bytes.length ≤ budget

/-- The n-th pair of the Lain search, from (1, 1) (45_qscale_search.md R252). -/
def lainPair : Nat → Option (Nat × Nat)
  | 0 => some (1, 1)
  | n + 1 => (lainPair n).bind fun p => lainScaleStep p.1 p.2

/-- The macroblock scales of the Iki search with the first n macroblocks of the order one scale lower
(45_qscale_search.md R255, R257). -/
def lowered (q0 : Nat) (order : List Nat) (count n : Nat) : List Nat :=
  (List.range count).map fun m => if m ∈ order.take n then q0 - 1 else q0

/-- Instruction i at s takes all the bits that are left, sets BR_EOS and faults the decoder with EndOfStream, k being the
real bits its last read got (43_decoder.md R208, 40_bit_cursor.md R126). -/
def RunsShort (i : Instr) (s : State) (k : Nat) : Prop :=
  ∃ r, Advanced s (ahead s).length r ∧ exec i s = .next (faulted s { r with eos := true } 2#4 k)

/-- n DEC_NEXT commands in a row (43_decoder.md R188). -/
def decSteps (n : Nat) (s : State) : State := decNext^[n] s

end Sys2Proof.Machine
end

