-- ==== Sys2Proof/Certificates/Slice0/Obligations.lean ====
section
/-! DEFINITION. The statements for the provers. Where a clause rests on a choice of the model, its docstring names the
log entry. -/

open Sys2Proof Sys2Proof.Machine

/-! ### Encoding -/

/-- 30_encoding.md R85 to R101, R103: what the encoder writes of an instruction, the decoder reads back at the
instruction's position, and leaves the bits after it. -/
def Obligations.DecodeOfEncode : Prop :=
  ∀ (i : Instr) (rest : Bits), i.encodable = true → decodeAt i.position (encode i ++ rest) = .ok i rest

/-- 30_encoding.md R85 to R101, R103: what the decoder reads is what the encoder writes; no bit is dropped and no bit
string has two readings at one position. -/
def Obligations.EncodeOfDecode : Prop :=
  ∀ (p : Position) (bits rest : Bits) (i : Instr), decodeAt p bits = .ok i rest →
    i.position = p ∧ i.encodable = true ∧ encode i ++ rest = bits

/-- 41_code_table.md R151, 30_encoding.md R88, R90, 70_reset_and_hazards.md R311: both dialects' tables and the DC size
tables pass the builder's checks; in Lain's, whatever the open parameter is. 60_exceptions.md R292: power-on reset gives a
state for the values of LAIN_AC_TABLE that pass the checks and rejects every other (log 10). -/
def Obligations.TableBuilt : Prop :=
  (∀ f : Nat → CodeMeaning, powerOn f = if assignmentOk f then some State.reset else none) ∧
  powerOn Config.lainAcTable.meaning = some State.reset ∧
  (∀ luma : Bool, ((List.range 9).map (dcCode luma)).Pairwise fun a b => ¬ a <+: b ∧ ¬ b <+: a) ∧
  ∀ d : Dialect,
    (codeTable d).map Entry.ordinal = List.range 224 ∧
    ((codeTable d).map Entry.bits).Pairwise (fun a b => ¬ a <+: b ∧ ¬ b <+: a) ∧
    (∀ e ∈ codeTable d, 2 ≤ e.bits.length ∧ e.bits.length ≤ 17) ∧
    (∀ e ∈ codeTable d, ∀ e' ∈ codeTable d, e.meaning = e'.meaning → e = e') ∧
    (∀ e ∈ codeTable d, ∀ run level, e.meaning = .ac run level → run ≤ 63 ∧ level ≠ 0) ∧
    (∃ e ∈ codeTable d, e.meaning = .esc) ∧ ∃ e ∈ codeTable d, e.meaning = .eob

/-- 41_code_table.md R152, 30_encoding.md R89: a lookup answers exactly the entry whose code opens the window, and
NO_MATCH exactly for the windows that begin with twelve zero bits. -/
def Obligations.LookupSpec : Prop :=
  ∀ (d : Dialect) (w : Nat), w < 2 ^ 17 →
    (∀ e, lookup d w = some e ↔ e ∈ codeTable d ∧ w / 2 ^ (17 - e.bits.length) = ofBits e.bits) ∧
    (lookup d w = none ↔ w / 2 ^ 5 = 0)

/-- 41_code_table.md R157. -/
def Obligations.DecodeEncodeAgreement : Prop :=
  ∀ (d : Dialect) (e : Entry) (run : Nat) (level : Int), e ∈ codeTable d → e.meaning = .ac run level →
    (∀ x, x < 2 ^ (17 - e.bits.length) → lookup d (ofBits e.bits * 2 ^ (17 - e.bits.length) + x) = some e) ∧
    encodeLookup d run level = some e

/-- Words and bit strings written out from 30_encoding.md R87, R91, R92, R95, R96, R98, R101, R103, R104 (a sanity
statement). -/
def Obligations.WordsDecode : Prop :=
  decodeCommand 0x1104#16 = .run (.brReadu 4#5) ∧
  decodeCommand 0x2003#16 = .run (.bwInit .be 1#2) ∧
  decodeCommand 0x5002#16 = .run (.decStart 2#3) ∧
  decodeAt .code [false, true, true, true, true] = .ok .ac_1_n1 [true] ∧
  decodeAt .dcTen [true, false, false, false, false, false, false, false, false, true] = .ok (.dc10 0x201#10) [] ∧
  decodeAt .dcLuma [true, false, true, false, true, true] = .ok (.dcv3LumaS3 3#3) [] ∧
  decodeAt .dcChroma [true, true, false, false, false, true] = .ok (.dcv3ChromaS3 1#3) [] ∧
  decodeAt .padStrv2 [false, true, true, true, true, true, true, true, true, true] = .ok .pad10Strv2 [] ∧
  decodeAt .lzBackref (toBits 8 6 ++ toBits 8 0x80 ++ toBits 8 0xC7) = .ok (.lzBackrefLong 6#8 199#15) []

/-! ### Commands, dispatch and reset -/

/-- 30_encoding.md R103, R104, R107, 60_exceptions.md R287: a word whose op is not in the map is BAD_OPCODE; one with an
immediate bit its command does not name is BAD_IMM; every other word is a command, and the one the encoder writes so. -/
def Obligations.CommandRejection : Prop :=
  ∀ w : BitVec 16,
    ((∀ p ∈ opcodeMap, p.1 ≠ w.extractLsb' 8 8) → decodeCommand w = .reject .badOpcode) ∧
    ∀ named : BitVec 8, (w.extractLsb' 8 8, named) ∈ opcodeMap →
      (w.extractLsb' 0 8 &&& ~~~named ≠ 0 → decodeCommand w = .reject .badImm) ∧
      (w.extractLsb' 0 8 &&& ~~~named = 0 →
        ∃ i, decodeCommand w = .run i ∧ i.position = .command ∧ encode i = toBits 16 w.toNat)

/-- 60_exceptions.md R287: a rejected word raises ContractViolation(BAD_OPCODE) or (BAD_IMM) and changes nothing but
ERR_CODE and ERR_INFO (and the host's side, log 1 to log 4). -/
def Obligations.RejectedWord : Prop :=
  ∀ (s : State) (c : HostCommand) (rest : List HostCommand) (why : DecodeError),
    s.host.pending = c :: rest → decodeCommand c.word = .reject why →
    step s = .next (violated { s with host := { s.host with pending := rest, operands := c.operands } }
      (if why = .badOpcode then 1 else 2))

/-- 00_scope.md R15, 10_state.md R48, 70_reset_and_hazards.md R315: the step takes the next command of the host's stream
and runs it; with none issued the block waits. The stream is the model's (log 1). -/
def Obligations.StepTakesNextCommand : Prop :=
  ∀ s : State,
    (s.host.pending = [] → step s = .next s) ∧
    (∀ (c : HostCommand) (rest : List HostCommand) (i : Instr),
      s.host.pending = c :: rest → decodeCommand c.word = .run i →
      step s = exec i { s with host := { s.host with pending := rest, operands := c.operands } }) ∧
    ∀ (w : Nat) (i : Instr), w < 2 ^ 16 → decodeCommand (BitVec.ofNat 16 w) = .run i →
      step (s.withFetchWord 16 w) = exec i s

/-- 70_reset_and_hazards.md R314, the power-on column, register by register; R313: RESET gives every register its power-on
value and leaves the host's diagnostic list alone. -/
def Obligations.PowerOnValues : Prop :=
  (∀ s : State,
    exec .reset s = .next { State.reset with host := { s.host with reply := .done, codeOut := none } }) ∧
  State.reset.cfg = ⟨.strv1, 0, 0, 0, 0, 0, 0, .two⟩ ∧
  State.reset.frame = ⟨0, []⟩ ∧ State.reset.ikiTable = ⟨0, []⟩ ∧ State.reset.out = ⟨0, []⟩ ∧
  State.reset.rd = ⟨0, 0, .le16, 0, 0, 0, false⟩ ∧
  State.reset.wr = ⟨[], .le16, .two, false⟩ ∧
  State.reset.dec = ⟨0, 0, 0, 0, .idle, 0, 0, 0, 0, .notChecked, 0, 0⟩ ∧
  State.reset.enc = ⟨.strv1, 0, 0, 0, 0, [], 0, 0, 0, 0, 0, ⟨0, []⟩⟩ ∧
  State.reset.srch = ⟨0, 0, 0, 0, none⟩ ∧
  State.reset.lz = ⟨0, ⟨0, []⟩, 0, 0⟩ ∧
  State.reset.err = ⟨0, 0, false⟩

/-- 70_reset_and_hazards.md R312: what the commands do before the first frame start. -/
def Obligations.BeforeFirstFrame : Prop :=
  exec .decNext State.reset = .next (violated State.reset 5) ∧
  (∀ n : BitVec 5, n ≠ 0 →
    exec (.brReadu n) State.reset =
      .next (refusedWith { State.reset with rd := { State.reset.rd with eos := true } } 2#4 0 (some 0)) ∧
    exec (.brReads n) State.reset =
      .next (refusedWith { State.reset with rd := { State.reset.rd with eos := true } } 2#4 0 (some 0)) ∧
    exec (.brSkip n) State.reset =
      .next (refusedWith { State.reset with rd := { State.reset.rd with eos := true } } 2#4 0 none) ∧
    exec (.brPeeku n) State.reset = .next (answered State.reset (.peek 0 0)) ∧
    exec (.brPeeks n) State.reset = .next (answered State.reset (.peek 0 0)) ∧
    exec (.bwWritev n) State.reset =
      .next (answered { State.reset with wr := ⟨toBits n.toNat 0, .le16, .two, false⟩ } .done)) ∧
  exec .decStatus State.reset =
    .next (answered State.reset
      (.status ⟨.idle, 0, 0, 0, 0, 0, .notChecked, false, 0, 0, 0, 0, 0, 0, 0, 0⟩))

/-! ### The bit reader -/

/-- 20_memory.md R62, R63, R66: the stream of a fresh reader is the bits, most significant first, of the bytes in
logical order, over the whole 16-bit words of the span. -/
def Obligations.LogicalStream : Prop :=
  ∀ (buffer : List Byte) (start stop : Nat) (pol : Policy), start ≤ stop → stop ≤ buffer.length →
    remainingBits (Memory.ofBytes buffer) (readerAt start stop pol) =
      (List.range (2 * ((stop - start) / 2))).flatMap fun j =>
        toBits 8 (buffer.getD (start + if pol = .le16 then j ^^^ 1 else j) 0).toNat

/-- 40_bit_cursor.md R120 to R122: taking bits, measured against `ahead`, the bits the reader's registers and FRAME have
still to deliver. That these are the logical sequence of 20_memory.md R62 and R63 is said of a fresh reader by
LogicalStream; ReaderOk does not tie BR_WORD to FRAME. -/
def Obligations.TakeBits : Prop :=
  ∀ (s : State) (n : Nat), ReaderOk s →
    (ahead s).length = bitsRemaining s.rd ∧
    (takeBits s.frame s.rd n).got = min n (bitsRemaining s.rd) ∧
    (takeBits s.frame s.rd n).value =
      ofBits ((ahead s).take n) * 2 ^ (n - (takeBits s.frame s.rd n).got) ∧
    Advanced s (takeBits s.frame s.rd n).got (takeBits s.frame s.rd n).regs

/-- 40_bit_cursor.md R125, R126, R127, R130: BR_READU, BR_READS and BR_SKIP outside a decode take n bits and report
them, or take all that is left, set BR_EOS and raise EndOfStream with the zero-filled value. -/
def Obligations.ReadCommands : Prop :=
  ∀ (s : State) (n : BitVec 5), ReaderOk s → n ≠ 0 → decodeActive s = false →
    let k := min n.toNat (ahead s).length
    let v := ofBits ((ahead s).take n.toNat) * 2 ^ (n.toNat - k)
    ∃ r, Advanced s k r ∧
      (n.toNat ≤ (ahead s).length →
        exec (.brReadu n) s = .next (answered { s with rd := r } (.value v)) ∧
        exec (.brReads n) s = .next (answered { s with rd := r } (.value (sext n.toNat v))) ∧
        exec (.brSkip n) s = .next (answered { s with rd := r } .done)) ∧
      ((ahead s).length < n.toNat →
        let s' := { s with rd := { r with eos := true } }
        exec (.brReadu n) s = .next (refusedWith s' 2#4 k (some v)) ∧
        exec (.brReads n) s = .next (refusedWith s' 2#4 k (some (sext n.toNat v))) ∧
        exec (.brSkip n) s = .next (refusedWith s' 2#4 k none))

/-- 40_bit_cursor.md R131. -/
def Obligations.PeekThenRead : Prop :=
  ∀ (s : State) (n : BitVec 5), ReaderOk s → n ≠ 0 → decodeActive s = false →
    ∃ v k t u, exec (.brPeeku n) s = .next t ∧ t.host.reply = .peek v k ∧ t.rd = s.rd ∧
      exec (.brReadu n) t = .next u ∧
      (u.host.reply = .value v ∨ u.host.reply = .exception 2#4 k (some v)) ∧
      bitsRead u.rd = bitsRead s.rd + min n.toNat (bitsRemaining s.rd)

/-- 40_bit_cursor.md R128, R129, R132, R133: BR_PEEKU, BR_PEEKS, BR_BITSREAD and BR_BITSREM report and change nothing,
in every state of the decoder. -/
def Obligations.ReaderQueries : Prop :=
  ∀ s : State, ReaderOk s →
    (∀ n : BitVec 5, n ≠ 0 →
      let k := min n.toNat (ahead s).length
      let v := ofBits ((ahead s).take n.toNat) * 2 ^ (n.toNat - k)
      exec (.brPeeku n) s = .next (answered s (.peek v k)) ∧
      exec (.brPeeks n) s = .next (answered s (.peek (sext n.toNat v) k))) ∧
    ∃ used left, exec .brBitsread s = .next (answered s (.count used)) ∧
      exec .brBitsrem s = .next (answered s (.count left)) ∧
      used + s.rd.bitsLeft = 8 * (s.rd.offset - s.rd.start) ∧
      used + left = 16 * ((s.rd.stop - s.rd.start) / 2) ∧ left = (ahead s).length

/-- 40_bit_cursor.md R124: BR_INIT. -/
def Obligations.BrInit : Prop :=
  ∀ (s : State) (pol : Policy),
    let o := s.host.operands
    (o.start ≤ o.stop ∧ o.stop ≤ o.buffer.length ∧ decodeActive s = false →
      exec (.brInit pol) s =
        .next (answered
          { s with frame := Memory.ofBytes o.buffer, rd := ⟨o.start, o.stop, pol, o.start, 0, 0, false⟩ } .done)) ∧
    (¬ (o.start ≤ o.stop ∧ o.stop ≤ o.buffer.length ∧ decodeActive s = false) →
      exec (.brInit pol) s = .next (violated s 4))

/-- 40_bit_cursor.md R123, R125, 70_reset_and_hazards.md R319: a width of 0 is BAD_WIDTH for every command that takes
one, before anything else; a legal moving reader command during a decode is BAD_OPERAND. -/
def Obligations.ReaderRefusals : Prop :=
  ∀ s : State,
    (∀ i ∈ [Instr.brReadu 0, .brReads 0, .brSkip 0, .brPeeku 0, .brPeeks 0, .bwWritev 0],
      exec i s = .next (violated s 3)) ∧
    ∀ n : BitVec 5, n ≠ 0 → decodeActive s = true →
      ∀ i ∈ [Instr.brReadu n, .brReads n, .brSkip n], exec i s = .next (violated s 4)

/-! ### The bit writer -/

/-- 40_bit_cursor.md R134: BW_INIT. -/
def Obligations.BwInit : Prop :=
  ∀ (s : State) (pol : Policy) (al : BitVec 2),
    (al = 3 ∨ (pol = .le16 ∧ al = 0) → exec (.bwInit pol al) s = .next (violated s 4)) ∧
    (¬ (al = 3 ∨ (pol = .le16 ∧ al = 0)) →
      ∃ a, alignBytes a = 2 ^ al.toNat ∧ exec (.bwInit pol al) s = .next (answered { s with wr := ⟨[], pol, a, false⟩ } .done))

/-- 40_bit_cursor.md R135, R136, R137: BW_WRITEV and BW_WRITESTR append; after BW_FINAL every write and a second
finalization are refused; a string with a character that is no bit is refused and nothing is written. -/
def Obligations.WriterCommands : Prop :=
  ∀ (s : State) (n : BitVec 5), n ≠ 0 →
    let o := s.host.operands
    (s.wr.final = false →
      exec (.bwWritev n) s =
        .next (answered
          { s with wr := { s.wr with bits := s.wr.bits ++ toBits n.toNat (o.value % 2 ^ n.toNat).toNat } } .done) ∧
      ((∀ c ∈ o.chars, c = '0' ∨ c = '1') →
        exec .bwWritestr s =
          .next (answered { s with wr := { s.wr with bits := s.wr.bits ++ o.chars.map (· == '1') } } .done)) ∧
      ((∃ c ∈ o.chars, c ≠ '0' ∧ c ≠ '1') → exec .bwWritestr s = .next (violated s 4))) ∧
    (s.wr.final = true →
      exec (.bwWritev n) s = .next (violated s 7) ∧ exec .bwWritestr s = .next (violated s 7) ∧
        exec .bwFinal s = .next (violated s 7))

/-- 40_bit_cursor.md R137, 20_memory.md R62: BW_FINAL gives whole logical bytes padded with zero bits, a multiple of the
alignment of them and no more than needed, each at its physical offset. That OUT is exactly these bytes, whatever it held,
is the model's choice (log 32). -/
def Obligations.BwFinal : Prop :=
  ∀ s : State, WriterOk s → s.wr.final = false →
    ∃ bytes, exec .bwFinal s =
        .next (answered { s with out := Memory.ofBytes bytes, wr := { s.wr with final := true } } (.bytes bytes)) ∧
      bytes.length % alignBytes s.wr.align = 0 ∧
      s.wr.bits.length ≤ 8 * bytes.length ∧
      8 * bytes.length < s.wr.bits.length + 8 * alignBytes s.wr.align ∧
      ∀ j, j < bytes.length → ∀ k, k < 8 →
        (bytes.getD (if s.wr.policy = .le16 then j ^^^ 1 else j) 0).getLsbD (7 - k) =
          s.wr.bits.getD (8 * j + k) false

/-- 40_bit_cursor.md R138, for every writer whose output is a whole number of words; of an odd number of bytes (one-byte
alignment) the reader delivers no last byte (20_memory.md R66, log 31). -/
def Obligations.WriterReaderAgree : Prop :=
  ∀ (bits : Bits) (pol : Policy) (a : Align), (pol = .le16 → a ≠ .one) →
    (finalBytes bits pol a).length % 2 = 0 →
    ∃ zeros, remainingBits (Memory.ofBytes (finalBytes bits pol a)) (readerAt 0 (finalBytes bits pol a).length pol) =
      bits ++ List.replicate zeros false

/-! ### The code-table commands -/

/-- 41_code_table.md R154, R156: CT_DECODE and CT_ENCODE. -/
def Obligations.CtCommands : Prop :=
  ∀ (s : State) (d : Dialect),
    let o := s.host.operands
    (2 ^ 17 ≤ o.window → exec (.ctDecode d) s = .next (violated s 4)) ∧
    (o.window < 2 ^ 17 → ∃ r, exec (.ctDecode d) s = .next (answered s r) ∧
      (lookup d o.window = none → r = .noMatch) ∧
      ∀ e, lookup d o.window = some e → r = .entry e.ordinal e.bits.length e.meaning) ∧
    (¬ (o.run ≤ 63 ∧ -512 ≤ o.level ∧ o.level ≤ 511) → exec (.ctEncode d) s = .next (violated s 4)) ∧
    (o.run ≤ 63 ∧ -512 ≤ o.level ∧ o.level ≤ 511 → ∃ r, exec (.ctEncode d) s = .next (answered s r) ∧
      (encodeLookup d o.run o.level = none → r = .noCode) ∧
      ∀ e, encodeLookup d o.run o.level = some e → r = .code e.ordinal e.bits)

/-! ### Headers -/

/-- 42_headers.md R167 to R170: a buffer with a valid STRv_k header is identified as that format with those parameters,
and no other buffer is identified as an STR format. The values of the record's unused fields, and its buffer being the
whole operand buffer, are the model's (log 33). -/
def Obligations.StrIdentified : Prop :=
  ∀ (s : State) (f : Format) (k : Byte), (f, k) ∈ [(Format.strv1, 1#8), (.strv2, 2#8), (.strv3, 3#8)] →
    let o := s.host.operands
    let at' (a : Nat) : Byte := o.buffer.getD a 0
    let scale := (at' 4).toNat + 256 * (at' 5).toNat
    let valid := 8 ≤ o.length ∧ at' 2 = 0x00#8 ∧ at' 3 = 0x38#8 ∧ (1 ≤ scale ∧ scale ≤ 63) ∧ at' 6 = k ∧ at' 7 = 0#8
    o.length ≤ o.buffer.length →
    (valid →
      exec .hdrIdentify s =
        .next (answered { s with err := { s.err with code := 0, info := 0 } }
          (.params { format := f.code, buffer := o.buffer, start := 8, stop := o.length, mbCount := o.mbCount,
                     qscale := scale }))) ∧
    ∀ t p, exec .hdrIdentify s = .next t → t.host.reply = .params p → p.format = f.code → valid

/-- 42_headers.md R165, R179, R180: HDR_IDENTIFY takes the first format that matches, in the fixed order, or raises
FormatNotRecognized; it changes no register but ERR_CODE and ERR_INFO, and raises nothing else on a length inside the
buffer. R172 to R175, R177, R178: what an Iki and a Lain header must hold, and the records they give. When a header fits
its length is the model's reading (log 25); the values of a record's unused fields, and its buffer being the whole operand
buffer, are its choice (log 33), and so is an LZSS data offset and a bitstream start that no field holds (log 13). -/
def Obligations.IdentifyOutcome : Prop :=
  (∀ (buf : List Byte) (len count : Nat) (p : FrameParams),
    let l := ikiLayout
    let w := readField buf l.width
    let h := readField buf l.height
    let c := readField buf l.csize
    let n := (w + 15) / 16 * ((h + 15) / 16)
    identifyAs .iki buf len count = some p ↔
      l.lzOffset ≤ len ∧ readField buf l.magic = l.magicValue ∧ 0 < w ∧ 0 < h ∧ c % 2 = 0 ∧ l.lzOffset + c ≤ len ∧
      ∃ work, lzDecomp Config.lzssFlagOrder ((buf.drop l.lzOffset).take c) (12 * n) = (work, none) ∧
        p = { format := 3, buffer := buf, start := ikiBsOffset c, stop := len, mbCount := n, ikiTable := work.dst }) ∧
  (∀ (buf : List Byte) (len count : Nat) (p : FrameParams),
    let l := lainLayout
    let luma := readField buf l.qLuma
    let chroma := readField buf l.qChroma
    let m := readField buf l.magicOrFrame
    identifyAs .lain buf len count = some p ↔
      l.bsOffset ≤ len ∧ (1 ≤ luma ∧ luma ≤ 63) ∧ (1 ≤ chroma ∧ chroma ≤ 63) ∧ readField buf l.version = 0 ∧
      (m = 0x3800 ∨ m ≤ 4764) ∧
      p = { format := 4, buffer := buf, start := l.bsOffset, stop := len, mbCount := count, qscaleLuma := luma,
            qscaleChroma := chroma }) ∧
  ∀ s : State,
    let o := s.host.operands
    let s' := { s with err := { s.err with code := 0, info := 0 } }
    (o.buffer.length < o.length → exec .hdrIdentify s = .next (violated s 4)) ∧
    (o.length ≤ o.buffer.length →
      (∀ (n : Nat) (f : Format) (p : FrameParams), [Format.strv2, .strv3, .strv1, .iki, .lain][n]? = some f →
        identifyAs f o.buffer o.length o.mbCount = some p →
        (∀ g ∈ [Format.strv2, .strv3, .strv1, .iki, .lain].take n, identifyAs g o.buffer o.length o.mbCount = none) →
        exec .hdrIdentify s = .next (answered s' (.params p))) ∧
      ((∀ f, identifyAs f o.buffer o.length o.mbCount = none) →
        exec .hdrIdentify s = .next (refusedWith s' 1#4 0 none)))

/-! ### The decode state machine -/

/-- 43_decoder.md R186: DEC_START. -/
def Obligations.DecStart : Prop :=
  ∀ (s : State) (fmt : BitVec 3),
    let p := s.host.operands.params
    (Format.ofCode fmt = none → exec (.decStart fmt) s = .next (violated s 4)) ∧
    ∀ f, Format.ofCode fmt = some f →
      let legal := p.format = f.code ∧ p.start ≤ p.stop ∧ p.stop ≤ p.buffer.length ∧
        (f = .strv1 ∨ f = .strv2 ∨ f = .strv3 → 1 ≤ p.qscale ∧ p.qscale ≤ 63) ∧
        (f = .lain → (1 ≤ p.qscaleLuma ∧ p.qscaleLuma ≤ 63) ∧ 1 ≤ p.qscaleChroma ∧ p.qscaleChroma ≤ 63) ∧
        (f = .iki → p.ikiTable.length = 12 * p.mbCount)
      (¬ legal → exec (.decStart fmt) s = .next (violated s 4)) ∧
      (legal → exec (.decStart fmt) s =
        .next (answered
          { s with
            cfg :=
              { format := f
                qscale := if f = .strv1 ∨ f = .strv2 ∨ f = .strv3 then BitVec.ofNat 6 p.qscale else 0
                qscaleLuma := if f = .lain then BitVec.ofNat 6 p.qscaleLuma else 0
                qscaleChroma := if f = .lain then BitVec.ofNat 6 p.qscaleChroma else 0
                mbCount := p.mbCount, start := p.start, stop := p.stop, padAlign := padAlign f }
            ikiTable := if f = .iki then Memory.ofBytes p.ikiTable else ⟨0, []⟩
            frame := Memory.ofBytes p.buffer
            rd := ⟨p.start, p.stop, if f = .lain then .be else .le16, p.start, 0, 0, false⟩
            dec := ⟨0, 0, 0, 0, if 0 < p.mbCount then .blockStart else if f = .strv2 ∨ f = .strv3 then .padding else .done,
              0, 0, 0, 0, .notChecked, 0, 0⟩
            err := ⟨0, 0, false⟩ } .done))

/-- 43_decoder.md R189, R193, R194: a DC10 token at a block start of STRv1, STRv2 or Lain. The token as a step of its own,
whose bits need not be those at the cursor, is the model's choice (log 9), and so is the code where it is 0xFE00, against
10_state.md R22 (log 26). -/
def Obligations.DcTenStart : Prop :=
  ∀ (s : State) (v : BitVec 10), s.dec.state = .blockStart →
    (s.cfg.format = .strv1 ∨ s.cfg.format = .strv2 ∨ s.cfg.format = .lain) → ReaderOk s → 10 ≤ (ahead s).length →
    ∃ r, Advanced s 10 r ∧
      exec (.dc10 v) s =
        .next (emitted s r { s.dec with vpos := 0, state := .midBlock }
          ((if s.cfg.format = .lain then
              if 2 ≤ s.dec.ctxBlock then s.cfg.qscaleLuma else s.cfg.qscaleChroma
            else s.cfg.qscale) ++ v))

/-- 43_decoder.md R191, 30_encoding.md R92, R93: the eighteen STRv3 DC tokens at a block start of their class.
The token as a step of its own, whose bits need not be those at the cursor, is the model's choice (log 9), and so is the
code of scale 63 with DC −512, against 10_state.md R22 (log 26). -/
def Obligations.DcV3Start : Prop :=
  ∀ (s : State) (i : Instr) (luma : Bool) (size v : Nat), dcV3Fields i = some (luma, size, v) →
    s.dec.state = .blockStart → s.cfg.format = .strv3 → isLuma s.dec.ctxBlock = luma → ReaderOk s →
    (dcCode luma size).length + size ≤ (ahead s).length →
    let diff : Int := if size = 0 then 0 else if 2 ^ (size - 1) ≤ v then v else v - (2 ^ size - 1)
    let dc := (predictor s.dec).toInt + 4 * diff
    ∃ r, Advanced s ((dcCode luma size).length + size) r ∧
      exec i s = .next
        (if -512 ≤ dc ∧ dc ≤ 511 then
          emitted s r { setPredictor s.dec (BitVec.ofInt 10 dc) with vpos := 0, state := .midBlock }
            (s.cfg.qscale ++ BitVec.ofInt 10 dc)
        else faulted s r 3#4 3)

/-- 43_decoder.md R200, R201: any of the 224 code-table strings that the frame's dialect binds to a pair, inside a block.
In the standard dialect these are `AC(0,+1)` to `AC(31,-1)`. The token as a step of its own, whose bits need not be those
at the cursor, is the model's choice (log 9). -/
def Obligations.AcCode : Prop :=
  ∀ (s : State) (i : Instr) (k run : Nat) (level : Int) (e : Entry), i.ordinal = some k →
    (codeTable (dialectOf s.cfg.format))[k]? = some e → e.meaning = .ac run level →
    s.dec.state = .midBlock → ReaderOk s → e.bits.length ≤ (ahead s).length →
    ∃ r, Advanced s e.bits.length r ∧
      exec i s = .next
        (if s.dec.vpos + run + 1 < 64 then
          emitted s r { s.dec with vpos := s.dec.vpos + run + 1 } (mdec run level)
        else faulted s r 3#4 2)

/-- 43_decoder.md R203: the string bound to end-of-block (`EOB` in the standard dialect), inside a block. The token
as a step of its own, whose bits need not be those at the cursor, is the model's choice (log 9), and so is it that Lain's
end-of-block may be any of the 224 strings (log 35). -/
def Obligations.EndOfBlock : Prop :=
  ∀ (s : State) (i : Instr) (k : Nat) (e : Entry), i.ordinal = some k →
    (codeTable (dialectOf s.cfg.format))[k]? = some e → e.meaning = .eob →
    s.dec.state = .midBlock → ReaderOk s → e.bits.length ≤ (ahead s).length →
    ∃ r, Advanced s e.bits.length r ∧
      exec i s = .next (emitted s r
        { s.dec with
          ctxBlocks := s.dec.ctxBlocks + 1
          ctxBlock := if s.dec.ctxBlock = 5 then 0 else s.dec.ctxBlock + 1
          ctxMb := if s.dec.ctxBlock = 5 then s.dec.ctxMb + 1 else s.dec.ctxMb
          vpos := 0
          state :=
            if s.dec.ctxBlocks + 1 = 6 * s.cfg.mbCount then
              if s.cfg.format = .strv2 ∨ s.cfg.format = .strv3 then .padding else .done
            else .blockStart } 0xFE00#16)

/-- 43_decoder.md R197, R198, R201: the four escape payloads, in a format whose escape they are. The payload as a step of its own,
whose bits need not be those at the cursor, is the model's choice (log 9), and so is a short Lain payload of the byte 0x00
or 0x80, which 30_encoding.md R96 does not have: its level is the byte's signed value (log 9). -/
def Obligations.EscapePayloads : Prop :=
  ∀ (s : State) (p : Instr) (run : Nat) (level : Int), payloadFields p = some (run, level) →
    p.position = payloadPosition s.cfg.format → s.dec.state = .midBlock → ReaderOk s →
    (encode p).length ≤ (ahead s).length →
    ∃ r, Advanced s (encode p).length r ∧
      exec p s = .next
        (if s.dec.vpos + run + 1 < 64 then
          emitted s r { s.dec with vpos := s.dec.vpos + run + 1 } (mdec run level)
        else faulted s r 3#4 2)

/-- 43_decoder.md R197, R198, R201: the string bound to escape (`ESC` in the standard dialect) takes the payload that
follows it. The prefix as a step of its own, whose bits need not be those at the cursor, is the model's choice (log 9); the
payload's bits are those of the stream. That Lain's escape may be any of the 224 strings is its choice too (log 35). -/
def Obligations.EscapeCode : Prop :=
  ∀ (s : State) (i p : Instr) (k run : Nat) (level : Int) (e : Entry) (rest : Bits), i.ordinal = some k →
    (codeTable (dialectOf s.cfg.format))[k]? = some e → e.meaning = .esc →
    s.dec.state = .midBlock → ReaderOk s → e.bits.length ≤ (ahead s).length →
    decodeAt (payloadPosition s.cfg.format) ((ahead s).drop e.bits.length) = .ok p rest →
    payloadFields p = some (run, level) →
    ∃ r, Advanced s (e.bits.length + (encode p).length) r ∧
      exec i s = .next
        (if s.dec.vpos + run + 1 < 64 then
          emitted s r { s.dec with vpos := s.dec.vpos + run + 1 } (mdec run level)
        else faulted s r 3#4 2)

/-- 43_decoder.md R205, 60_exceptions.md R300: the padding check, by DEC_NEXT and by the tail's own token; a mismatch or
a short tail is a warning and no exception. -/
def Obligations.PaddingCheck : Prop :=
  ∀ (s : State) (tail : Bits), s.dec.state = .padding → ReaderOk s → padTail s.cfg.format = some tail →
    let k := min 10 (ahead s).length
    let v := ofBits ((ahead s).take 10) * 2 ^ (10 - k)
    ∃ r, Advanced s k r ∧
      ((ahead s).take 10 = tail →
        let t : State := { s with
          rd := r
          dec := { s.dec with padStatus := .valid, state := .done }
          host := { s.host with reply := .endMark, codeOut := some .endMark } }
        exec .decNext s = .next t ∧ (s.cfg.format = .strv2 → exec .pad10Strv2 s = .next t) ∧
          (s.cfg.format = .strv3 → exec .pad10Strv3 s = .next t)) ∧
      ((ahead s).take 10 ≠ tail →
        exec .decNext s = .next { s with
          rd := { r with eos := s.rd.eos || decide (k < 10) }
          dec := { s.dec with padStatus := .mismatch, state := .done }
          err := { s.err with warnPadding := true }
          host := { s.host with
            diag := s.host.diag ++ [⟨.paddingMismatch, v⟩], reply := .endMark, codeOut := some .endMark } })

/-- 43_decoder.md R188, R194, R201, R205: DEC_NEXT does what the token at the cursor does. -/
def Obligations.DecNextRunsToken : Prop :=
  ∀ (s : State) (i : Instr), ReaderOk s → nextToken s = some i →
    ∃ t, exec .decNext s = .next t ∧ exec i s = .next t

/-- 43_decoder.md R188, R190, R206, R208: DEC_NEXT where it reads no bit: in IDLE, in DONE, in FAULT, and at an Iki block
start. A repeated exception is entered as 60_exceptions.md R293 says; that it is listed again is the model's reading (log
4). The Iki entry is emitted as is (R190), also where it is 0xFE00, which stands against 10_state.md R22 (log 26). -/
def Obligations.DecNextAtRest : Prop :=
  ∀ s : State,
    (s.dec.state = .idle → exec .decNext s = .next (violated s 5)) ∧
    (s.dec.state = .done →
      exec .decNext s = .next { s with host := { s.host with reply := .endMark, codeOut := some .endMark } }) ∧
    (s.dec.state = .fault → exec .decNext s = .next (faulted s s.rd s.dec.faultCode s.dec.faultInfo)) ∧
    (s.dec.state = .blockStart → s.cfg.format = .iki →
      exec .decNext s = .next (emitted s s.rd { s.dec with vpos := 0, state := .midBlock }
        (ikiEntry (6 * s.cfg.mbCount) s.ikiTable s.dec.ctxBlocks)))

/-- 43_decoder.md R192, R199, R201, 30_encoding.md R106: the windows that fault the decoder: no code of the table, a code
longer than what is left, no STRv3 size code; and the tokens the stream ends in: a DC10 (R189, R193; vector V-DE4), an
STRv3 size code or differential (R191, R192), an escape payload (R197, R198, R202). The DC10 token as a step of its
own is the model's choice (log 9). -/
def Obligations.FaultingWindows : Prop :=
  ∀ s : State, ReaderOk s →
    let k := min 17 (ahead s).length
    let window := (ahead s).take 17 ++ List.replicate (17 - k) false
    (s.dec.state = .midBlock → window.take 12 = List.replicate 12 false →
      exec .decNext s = .next (if k < 17 then faulted s s.rd 2#4 k else faulted s s.rd 3#4 1)) ∧
    (s.dec.state = .midBlock → ∀ e ∈ codeTable (dialectOf s.cfg.format), e.bits <+: window →
      (ahead s).length < e.bits.length → RunsShort .decNext s (ahead s).length) ∧
    (s.dec.state = .blockStart → s.cfg.format = .strv3 →
      (ahead s).take (if 2 ≤ s.dec.ctxBlock then 7 else 8) =
        List.replicate (if 2 ≤ s.dec.ctxBlock then 7 else 8) true →
      exec .decNext s = .next (faulted s s.rd 3#4 4)) ∧
    (s.dec.state = .blockStart → (s.cfg.format = .strv1 ∨ s.cfg.format = .strv2 ∨ s.cfg.format = .lain) →
      (ahead s).length < 10 →
      RunsShort .decNext s (ahead s).length ∧ ∀ v, RunsShort (.dc10 v) s (ahead s).length) ∧
    (s.dec.state = .blockStart → s.cfg.format = .strv3 →
      let luma := isLuma s.dec.ctxBlock
      let m := if luma then 7 else 8
      let left := (ahead s).length
      ∀ size, dcSize luma ((ahead s).take m ++ List.replicate (m - left) false) = some size →
        let len := (dcCode luma size).length
        (left < len → RunsShort .decNext s left) ∧
        (len ≤ left → left < len + size → RunsShort .decNext s (left - len))) ∧
    (s.dec.state = .midBlock → ∀ e ∈ codeTable (dialectOf s.cfg.format), e.meaning = .esc → e.bits <+: ahead s →
      let rest := (ahead s).drop e.bits.length
      let extended := (rest.drop 6).take 8 = toBits 8 0x00 ∨ (rest.drop 6).take 8 = toBits 8 0x80
      (rest.length < 6 → RunsShort .decNext s rest.length) ∧
      (6 ≤ rest.length → rest.length < (if s.cfg.format = .lain then 14 else 16) →
        RunsShort .decNext s (rest.length - 6)) ∧
      (s.cfg.format = .lain → 14 ≤ rest.length → extended → rest.length < 22 →
        RunsShort .decNext s (rest.length - 14)))

/-- 43_decoder.md R207: DEC_STATUS reports and changes nothing. -/
def Obligations.DecStatus : Prop :=
  ∀ s : State, exec .decStatus s = .next (answered s (.status
    { state := s.dec.state, bitsRead := 8 * (s.rd.offset - s.rd.start) - s.rd.bitsLeft, byteOffset := s.rd.offset,
      qscale := s.cfg.qscale, qscaleLuma := s.cfg.qscaleLuma, qscaleChroma := s.cfg.qscaleChroma,
      padStatus := s.dec.padStatus, warnPadding := s.err.warnPadding, faultCode := s.dec.faultCode,
      faultInfo := s.dec.faultInfo, errCode := s.err.code, errInfo := s.err.info, block := s.dec.ctxBlock,
      mb := s.dec.ctxMb, codes := s.dec.ctxCodes, blocks := s.dec.ctxBlocks }))

/-- 43_decoder.md R210: no instruction moves DEC_STATE but by a transition of the table. -/
def Obligations.DecoderTransitions : Prop :=
  ∀ (i : Instr) (s t : State), exec i s = .next t → t.dec.state ≠ s.dec.state →
    (i = .reset ∧ t.dec.state = .idle) ∨
    (∃ fmt, i = .decStart fmt ∧ t.dec.state =
      if 0 < t.cfg.mbCount then .blockStart else if (padTail t.cfg.format).isSome then .padding else .done) ∨
    (isDecoding i = true ∧
      ((s.dec.state = .blockStart ∧ t.dec.state = .midBlock) ∨
       (s.dec.state = .midBlock ∧ t.dec.state =
         if t.dec.ctxBlocks = 6 * t.cfg.mbCount then
           if (padTail t.cfg.format).isSome then .padding else .done
         else .blockStart) ∨
       (s.dec.state = .padding ∧ t.dec.state = .done) ∨
       ((s.dec.state = .blockStart ∨ s.dec.state = .midBlock) ∧ t.dec.state = .fault ∧
         (t.err.code = 2#4 ∨ t.err.code = 3#4))))

/-- 10_state.md R25 to R27, R30, R31, R37 to R39, R42, 20_memory.md R60, 43_decoder.md R187, R209: each unit's registers
change only by the instructions that own them. The token instructions stand for the command that performs them (log 9). -/
def Obligations.OnlyOwnersWrite : Prop :=
  ∀ (i : Instr) (s t : State), exec i s = .next t →
    (t.cfg ≠ s.cfg ∨ t.ikiTable ≠ s.ikiTable → startsAfresh i = true) ∧
    (t.dec ≠ s.dec ∨ t.err.warnPadding ≠ s.err.warnPadding → startsAfresh i = true ∨ isDecoding i = true) ∧
    (t.frame ≠ s.frame → startsAfresh i = true ∨ ∃ pol, i = .brInit pol) ∧
    (t.rd ≠ s.rd → startsAfresh i = true ∨ isDecoding i = true ∨ (movesCursor i = true ∧ decodeActive s = false)) ∧
    (t.wr ≠ s.wr → i = .reset ∨ isWriting i = true ∨ isEncoding i = true) ∧
    (t.out ≠ s.out → i = .reset ∨ i = .bwFinal ∨ isEncoding i = true) ∧
    (t.enc ≠ s.enc → i = .reset ∨ isEncoding i = true) ∧
    (t.srch ≠ s.srch → i = .reset ∨ isSearch i = true) ∧
    (t.lz ≠ s.lz → i = .reset ∨ isLzss i = true) ∧
    (t.err.code ≠ s.err.code ∨ t.err.info ≠ s.err.info →
      (∃ v, t.host.reply = .exception t.err.code t.err.info v) ∨
      (t.err.code = 0 ∧ t.err.info = 0 ∧
        (startsAfresh i = true ∨ isEncoding i = true ∨ i = .lzDecomp ∨ i = .lzComp ∨ i = .hdrIdentify)))

/-- 43_decoder.md R196: after at most 6 × CFG_MB_COUNT × 65 + 1 DEC_NEXT commands a frame decode stands in DONE or FAULT,
and every later one returns END or raises the recorded exception again. -/
def Obligations.DecodeTerminates : Prop :=
  ∀ (f : Format) (p : FrameParams) (s : State), acceptsFrame f p = true →
    ∀ n, 6 * p.mbCount * 65 + 1 ≤ n →
      ((decSteps n (startFrame f p s)).dec.state = .done ∧
        (decSteps (n + 1) (startFrame f p s)).host.reply = .endMark) ∨
      ((decSteps n (startFrame f p s)).dec.state = .fault ∧
        (decSteps (n + 1) (startFrame f p s)).host.reply =
          .exception (decSteps n (startFrame f p s)).dec.faultCode (decSteps n (startFrame f p s)).dec.faultInfo none)

/-- 44_encoder.md R237, for one block of STRv1, STRv2 or Lain: DEC_NEXT gives back, code by code, the block whose bits
the encoder wrote, and leaves the bits after it. -/
def Obligations.BlockRoundTrip : Prop :=
  ∀ (s : State) (mb b : Nat) (blk : List MdecCode) (st st' : EncSt) (bits rest : Bits),
    (s.cfg.format = .strv1 ∨ s.cfg.format = .strv2 ∨ s.cfg.format = .lain) → st.enc.format = s.cfg.format →
    goodAnswer s.cfg.format (blockScale s).toNat blk → encodeBlock mb b blk st = (st', none) →
    st'.wr.bits = st.wr.bits ++ bits → s.dec.state = .blockStart → ReaderOk s → ahead s = bits ++ rest →
    (∀ n, n < blk.length → (decSteps (n + 1) s).host.codeOut = (blk[n]?).map CodeOut.code) ∧
    ahead (decSteps blk.length s) = rest ∧ (decSteps blk.length s).dec.ctxBlocks = s.dec.ctxBlocks + 1

/-! ### Exceptions -/

/-- 60_exceptions.md R293: exception entry. -/
def Obligations.ExceptionEntry : Prop :=
  ∀ (s : State) (who : Raiser) (e : Exc) (v : Option Int),
    s.raise who e v =
      { refusedWith s e.code e.info v with
        dec :=
          if who = .decNext ∧ (e.code = 2#4 ∨ e.code = 3#4) then
            { s.dec with faultCode := e.code, faultInfo := e.info, state := .fault }
          else s.dec
        out := if who = .encoder then Memory.empty else s.out }

/-- 60_exceptions.md R293, R300, 10_state.md R41, R42: an instruction that reports an exception has recorded it in the
error registers and in one diagnostic entry and put nothing on CODE_OUT; any other adds at most a padding mismatch. -/
def Obligations.DiagnosticsGrow : Prop :=
  ∀ (i : Instr) (s t : State), exec i s = .next t →
    (∀ code info v, t.host.reply = .exception code info v →
      t.host.diag = s.host.diag ++ [⟨.exception code, info⟩] ∧ t.err.code = code ∧ t.err.info = info ∧
        t.host.codeOut = none) ∧
    ((∀ code info v, t.host.reply ≠ .exception code info v) →
      t.host.diag = s.host.diag ∨
      (isDecoding i = true ∧ t.dec.padStatus = .mismatch ∧
        ∃ v, t.host.diag = s.host.diag ++ [⟨.paddingMismatch, v⟩]))

/-! ### The encoder -/

/-- 44_encoder.md R221, R224, R232 to R236: ENC_FRAME on legal operands and good answers gives a frame, in OUT too: the
blocks' bits in order, the padding tail, the finalized bytes behind the format's header; only the encoder's, the writer's
and the error registers change. That an Iki frame's table must fit its field, and its dimensions theirs, is the model's
choice (log 17), and so is the empty ENC_MB_Q of the other formats (log 34). -/
def Obligations.EncFrameCompletes : Prop :=
  ∀ (s : State) (fmt : BitVec 3) (f : Format), Format.ofCode fmt = some f →
    let o := s.host.operands
    let answer (mb b : Nat) := askSource o.source mb b (askedScale f o mb b)
    legalEncode f o →
    (∀ mb b, mb < o.mbCount → b < 6 → goodAnswer f (askedScale f o mb b) (answer mb b)) →
    let e := (blocksEncoded f o).enc
    let w := frameWriter f o
    let bytes := frameBytes f o
    (tableFits f o →
      exec (.encFrame fmt) s =
        .next (answered
          { s with err := { s.err with code := 0, info := 0 }, enc := e, wr := w, out := Memory.ofBytes bytes }
          (.frame bytes bytes.length))) ∧
    (∀ mb b, mb < o.mbCount → b < 6 → ∀ st : EncSt, st.enc.format = f →
      ∃ st' bits, encodeBlock mb b (answer mb b) st = (st', none) ∧ st'.wr.bits = st.wr.bits ++ bits ∧
        eobBits (dialectOf f) <:+ bits) ∧
    e.blocks = 6 * o.mbCount ∧
    e.codes = ((List.range (6 * o.mbCount)).map fun k => (answer (k / 6) (k % 6)).length).sum ∧
    e.mbQ = (if f = .iki then o.mbQscale.map (BitVec.ofNat 6) else []) ∧
    w.align = padAlign f ∧ w.policy = (if f = .lain then .be else .le16) ∧
    (f = .strv1 ∨ f = .strv2 ∨ f = .strv3 →
      bytes = u16le (Config.strCountField e.codes).toNat ++ u16le 0x3800 ++ u16le o.qscale ++ u16le (strVersion f) ++
        finalBytes w.bits .le16 (padAlign f)) ∧
    (f = .iki → ∀ mb b, mb < o.mbCount → b < 6 →
      ikiEntry (6 * o.mbCount) e.table (6 * mb + b) = (answer mb b).headD 0)

/-- 44_encoder.md R235, R237: a frame ENC_FRAME returns passes its format's own validator, with the scales it was encoded
at; the bitstream behind the header is the writer's bytes, and an Iki header's table is the one built. The layouts are
open parameters within the limits of logs 13 and 14. -/
def Obligations.FrameValidates : Prop :=
  ∀ (s t : State) (fmt : BitVec 3) (f : Format) (bytes : List Byte) (size : Nat), Format.ofCode fmt = some f →
    exec (.encFrame fmt) s = .next t → t.host.reply = .frame bytes size →
    let o := s.host.operands
    ∃ p, identifyAs f bytes bytes.length o.mbCount = some p ∧ p.format = f.code ∧ p.buffer = bytes ∧
      p.stop = bytes.length ∧ size = bytes.length ∧ p.mbCount = o.mbCount ∧
      (f = .strv1 ∨ f = .strv2 ∨ f = .strv3 → p.qscale = o.qscale) ∧
      (f = .lain → p.qscaleLuma = o.qscaleLuma ∧ p.qscaleChroma = o.qscaleChroma) ∧
      (f = .iki → p.ikiTable = t.enc.table.toBytes) ∧
      bytes.drop p.start = finalBytes t.wr.bits t.wr.policy t.wr.align

/-- 44_encoder.md R221 to R223, R231, R239, 30_encoding.md R107: a reserved format code changes nothing but the error
registers (R107, 60_exceptions.md R287; the model's choice over R221 and R293, log 8); on every other exception of its checks ENC_FRAME leaves OUT empty, refused operands as well (60_exceptions.md
R293; the model's choice over R287, log 8). An Iki table that its header cannot carry is BAD_OPERAND (log 17). -/
def Obligations.EncFrameChecks : Prop :=
  ∀ (s : State) (fmt : BitVec 3),
    let o := s.host.operands
    (Format.ofCode fmt = none → exec (.encFrame fmt) s = .next (violated s 4)) ∧
    ∀ f, Format.ofCode fmt = some f →
      (¬ legalEncode f o → exec (.encFrame fmt) s = .next (encodeFailed s 6#4 4)) ∧
      (legalEncode f o →
        (∀ mb b, mb < o.mbCount → b < 6 →
          goodAnswer f (askedScale f o mb b) (askSource o.source mb b (askedScale f o mb b))) →
        tableFits f o ∨ ∃ e w, exec (.encFrame fmt) s = .next (encodeFailed { s with enc := e, wr := w } 6#4 4)) ∧
      ∀ mb b, legalEncode f o → mb < o.mbCount → b < 6 →
        let q := askedScale f o mb b
        let blk := askSource o.source mb b q
        (∀ mb' b', b' < 6 → 6 * mb' + b' < 6 * mb + b →
          goodAnswer f (askedScale f o mb' b') (askSource o.source mb' b' (askedScale f o mb' b'))) →
        (wellFormedBlock blk = false →
          ∃ e w, exec (.encFrame fmt) s = .next (encodeFailed { s with enc := e, wr := w } 6#4 6)) ∧
        (wellFormedBlock blk = true → mdecTop (blk.headD 0) ≠ q →
          ∃ e w, exec (.encFrame fmt) s =
            .next (encodeFailed { s with enc := e, wr := w } 5#4 ((6 * mb + b : Nat) : Int))) ∧
        ∀ before c after, wellFormedBlock blk = true → mdecTop (blk.headD 0) = q → f = .lain →
          acCodes blk = before ++ c :: after →
          (∀ c' ∈ before, encodeLookup .lain (mdecTop c') (mdecBottom c') = none →
            -255 ≤ mdecBottom c' ∧ mdecBottom c' ≤ 255) →
          encodeLookup .lain (mdecTop c) (mdecBottom c) = none → ¬ (-255 ≤ mdecBottom c ∧ mdecBottom c ≤ 255) →
          ∃ e w, exec (.encFrame fmt) s = .next (encodeFailed { s with enc := e, wr := w } 4#4 (mdecBottom c))

/-- 44_encoder.md R226 to R228, 30_encoding.md R92, R93: the STRv3 differential the encoder writes is the one the decoder
assembles, and rounding loses at most 2, or 3 for 511. -/
def Obligations.DcV3Differentials : Prop :=
  (∀ (luma : Bool) (diff : Int) (rest : Bits), -255 ≤ diff → diff ≤ 255 →
    ∃ size v, dcSize luma (dcV3Bits luma diff ++ rest) = some size ∧
      (dcV3Bits luma diff ++ rest).drop (dcCode luma size).length = toBits size v ++ rest ∧ v < 2 ^ size ∧
      dcDiff size v = diff) ∧
  ∀ dc : Int, -512 ≤ dc → dc ≤ 511 →
    rnd4 dc % 4 = 0 ∧ -512 ≤ rnd4 dc ∧ rnd4 dc ≤ 508 ∧
    (dc ≤ 510 → |rnd4 dc - dc| ≤ 2) ∧ (dc = 511 → rnd4 dc = 508) ∧ (dc % 4 = 0 → rnd4 dc = dc)

/-- 44_encoder.md R231, 30_encoding.md R96, R97: an escaped Lain level has a form exactly within −255..255, and the form
decodes to that level. -/
def Obligations.LainLevels : Prop :=
  ∀ level : Int,
    (lainLevelBits level = none ↔ level < -255 ∨ 255 < level) ∧
    ∀ (run : BitVec 6) (bits rest : Bits), lainLevelBits level = some bits →
      ∃ p, decodeAt .escLain (toBits 6 run.toNat ++ bits ++ rest) = .ok p rest ∧
        payloadFields p = some (run.toNat, level)

/-- 44_encoder.md R233: packing an entry of the Iki table gives that entry back and leaves every other one alone. -/
def Obligations.IkiTablePacks : Prop :=
  ∀ (n k : Nat) (t : Memory) (c : MdecCode), t.wf = true → t.size = 2 * n → k < n →
    ikiEntry n (ikiPack n t k c) k = c ∧ ∀ j, j < n → j ≠ k → ikiEntry n (ikiPack n t k c) j = ikiEntry n t j

/-! ### The searches -/

/-- 45_qscale_search.md R245, R246, R248, R250: SRCH_SINGLE and SRCH_PARTIAL return the first scale, from 1 or from the
original one, whose attempt fits, NO_FIT when every attempt up to 63 is passed over, and the exception of the first
attempt that raises another one than TooMuchEnergy. Refused operands are BAD_OPERAND, with OUT empty, and a reserved format
code changes nothing else (log 8). -/
def Obligations.SingleSearch : Prop :=
  ∀ (s : State) (i : Instr) (fmt : BitVec 3) (first : Nat),
    let o := s.host.operands
    (i = .srchSingle fmt ∧ first = 1 ∨ i = .srchPartial fmt ∧ first = o.qOrig) →
    (Format.ofCode fmt = none → exec i s = .next (violated s 4)) ∧
    (Format.ofCode fmt = some .lain → exec i s = .next (encodeFailed s 6#4 4)) ∧
    ∀ f, Format.ofCode fmt = some f → f ≠ .lain →
      (¬ (1 ≤ first ∧ first ≤ 63) → exec i s = .next (encodeFailed s 6#4 4)) ∧
      (1 ≤ first → first ≤ 63 →
        (∀ q bytes, first ≤ q → q ≤ 63 → (∀ q', first ≤ q' → q' < q → passedOver o.budget (singleJob f o q')) →
          fitsAs o.budget (singleJob f o q) bytes →
          ∃ e w, exec i s = .next (answered
            { s with
              err := { s.err with code := 0, info := 0 }
              srch := ⟨q, 0, 0, o.budget, some bytes⟩
              enc := e, wr := w, out := Memory.ofBytes bytes } (.found bytes q))) ∧
        ((∀ q, first ≤ q → q ≤ 63 → passedOver o.budget (singleJob f o q)) →
          ∃ e w, exec i s = .next (answered
            { s with
              err := { s.err with code := 0, info := 0 }
              srch := ⟨63, 0, 0, o.budget, none⟩
              enc := e, wr := w, out := Memory.empty } .noFit)) ∧
        ∀ q code info, first ≤ q → q ≤ 63 →
          (∀ q', first ≤ q' → q' < q → passedOver o.budget (singleJob f o q')) →
          attempt (singleJob f o q) = .raised ⟨code, info⟩ → code ≠ 4#4 →
          ∃ e w, exec i s =
            .next (encodeFailed { s with srch := ⟨q, 0, 0, o.budget, none⟩, enc := e, wr := w } code info))

/-- 45_qscale_search.md R249. -/
def Obligations.SearchMonotone : Prop :=
  ∀ (s : State) (fmt : BitVec 3) (b1 b2 : Nat), b1 ≤ b2 →
    let withBudget (b : Nat) : State :=
      { s with host := { s.host with operands := { s.host.operands with budget := b } } }
    (∀ t1 bytes1 q1, exec (.srchSingle fmt) (withBudget b1) = .next t1 → t1.host.reply = .found bytes1 q1 →
      ∃ t2 bytes2 q2, exec (.srchSingle fmt) (withBudget b2) = .next t2 ∧ t2.host.reply = .found bytes2 q2 ∧
        q2 ≤ q1) ∧
    ∀ t2, exec (.srchSingle fmt) (withBudget b2) = .next t2 → t2.host.reply = .noFit →
      ∃ t1, exec (.srchSingle fmt) (withBudget b1) = .next t1 ∧ t1.host.reply = .noFit

/-- 45_qscale_search.md R245, R247, R252, R253: SRCH_LAIN returns the first pair, of 125 from (1, 1) to (63, 63), whose
attempt fits; when all are passed over it reports NO_FIT, or the last attempt's TooMuchEnergy; an attempt that raises
another exception ends it with that one. -/
def Obligations.LainSearch : Prop :=
  lainPair 124 = some (63, 63) ∧ lainPair 125 = none ∧
  ∀ s : State,
    let o := s.host.operands
    (∀ n l c bytes, lainPair n = some (l, c) →
      (∀ m p, m < n → lainPair m = some p → passedOver o.budget (lainJob o p.1 p.2)) →
      fitsAs o.budget (lainJob o l c) bytes →
      ∃ e w, exec .srchLain s = .next (answered
        { s with
          err := { s.err with code := 0, info := 0 }
          srch := ⟨0, l, c, o.budget, some bytes⟩
          enc := e, wr := w, out := Memory.ofBytes bytes } (.foundLain bytes l c))) ∧
    (∀ n l c code info, lainPair n = some (l, c) →
      (∀ m p, m < n → lainPair m = some p → passedOver o.budget (lainJob o p.1 p.2)) →
      attempt (lainJob o l c) = .raised ⟨code, info⟩ → code ≠ 4#4 →
      ∃ e w, exec .srchLain s =
        .next (encodeFailed { s with srch := ⟨0, l, c, o.budget, none⟩, enc := e, wr := w } code info)) ∧
    ((∀ m p, lainPair m = some p → passedOver o.budget (lainJob o p.1 p.2)) →
      (∀ bytes, attempt (lainJob o 63 63) = .frame bytes →
        ∃ e w, exec .srchLain s = .next (answered
          { s with
            err := { s.err with code := 0, info := 0 }
            srch := ⟨0, 63, 63, o.budget, none⟩
            enc := e, wr := w, out := Memory.empty } .noFit)) ∧
      ∀ info, attempt (lainJob o 63 63) = .raised ⟨4#4, info⟩ →
        ∃ e w, exec .srchLain s =
          .next (encodeFailed { s with srch := ⟨0, 63, 63, o.budget, none⟩, enc := e, wr := w } 4#4 info))

/-- 45_qscale_search.md R245, R246, R254 to R257: SRCH_IKI. Phase 1 ends in the first scale q0 that fits, in NO_FIT, or in
an attempt's exception; phase 2, with slack and q0 above 1, lowers the macroblocks by one in the order of energy, distance
and index until one lowering is passed over or none is left; without slack, or at scale 1, phase 1's frame is returned.
Key lists of another length are BAD_OPERAND, with OUT empty (log 8). The registers SRCH_Q and SRCH_BEST after it are the
model's reading (log 22). -/
def Obligations.IkiSearch : Prop :=
  (∀ (energy distance : List Int) (n : Nat), (mbOrder energy distance n).Perm (List.range n) ∧
    (mbOrder energy distance n).Pairwise fun a b => mbBefore energy distance a b = true) ∧
  ∀ s : State,
    let o := s.host.operands
    let scales (q0 n : Nat) := lowered q0 (mbOrder o.energy o.distance o.mbCount) o.mbCount n
    let keysFit := o.energy.length = o.mbCount ∧ o.distance.length = o.mbCount
    let passedTo (q : Nat) := ∀ q', 1 ≤ q' → q' < q → passedOver o.budget (singleJob .iki o q')
    let slack (best : List Byte) (q0 : Nat) := best.length < o.budget ∧ 1 < q0
    let fitsTo (q0 n : Nat) := ∀ m, 1 ≤ m → m ≤ n → ∃ b, fitsAs o.budget (ikiJob o (scales q0 m)) b
    (¬ keysFit → exec .srchIki s = .next (encodeFailed s 6#4 4)) ∧
    (keysFit → passedTo 64 →
      ∃ e w, exec .srchIki s = .next (answered
        { s with
          err := { s.err with code := 0, info := 0 }
          srch := ⟨63, 0, 0, o.budget, none⟩
          enc := e, wr := w, out := Memory.empty } .noFit)) ∧
    (∀ q code info, keysFit → 1 ≤ q → q ≤ 63 → passedTo q →
      attempt (singleJob .iki o q) = .raised ⟨code, info⟩ → code ≠ 4#4 →
      ∃ e w, exec .srchIki s =
        .next (encodeFailed { s with srch := ⟨q, 0, 0, o.budget, none⟩, enc := e, wr := w } code info)) ∧
    (∀ q0 best n, keysFit → 1 ≤ q0 → q0 ≤ 63 → passedTo q0 → fitsAs o.budget (singleJob .iki o q0) best →
      n ≤ o.mbCount → fitsTo q0 n → (n = 0 ∨ slack best q0) →
      (¬ slack best q0 ∨ n = o.mbCount ∨ passedOver o.budget (ikiJob o (scales q0 (n + 1)))) →
      ∀ bytes, attempt (ikiJob o (scales q0 n)) = .frame bytes →
      ∃ e w, exec .srchIki s = .next (answered
        { s with
          err := { s.err with code := 0, info := 0 }
          srch := ⟨q0, 0, 0, o.budget, some bytes⟩
          enc := e, wr := w, out := Memory.ofBytes bytes } (.foundIki bytes (scales q0 n)))) ∧
    ∀ t bytes mbq, exec .srchIki s = .next t → t.host.reply = .foundIki bytes mbq →
      bytes.length ≤ o.budget ∧ t.out = Memory.ofBytes bytes ∧ t.srch.best = some bytes ∧
      ∃ q0 best n, 1 ≤ q0 ∧ q0 ≤ 63 ∧ passedTo q0 ∧ fitsAs o.budget (singleJob .iki o q0) best ∧ n ≤ o.mbCount ∧
        mbq = scales q0 n ∧ attempt (ikiJob o mbq) = .frame bytes ∧ (n = 0 ∨ slack best q0) ∧
        (slack best q0 → n < o.mbCount → passedOver o.budget (ikiJob o (scales q0 (n + 1))))

/-! ### The LZSS unit -/

/-- 46_lzss.md R276, R267, R274: decompressing what was compressed gives the data back and uses every byte, under either
flag order, and LZ_COMP then LZ_DECOMP do so. -/
def Obligations.LzRoundTrip : Prop :=
  ∀ data : List Byte,
    (∀ o : FlagOrder, ∃ flags flagI,
      lzDecomp o (lzComp o data) data.length = (⟨(lzComp o data).length, data, flags, flagI⟩, none)) ∧
    ∀ s : State, s.host.operands.data = data →
      ∃ packed lz,
        exec .lzComp s = .next (answered { s with err := { s.err with code := 0, info := 0 }, lz := lz } (.bytes packed)) ∧
        ∀ u : State, u.host.operands.src = packed → u.host.operands.start = 0 → u.host.operands.dsize = data.length →
          ∃ flags flagI, exec .lzDecomp u = .next (answered
            { u with
              err := { u.err with code := 0, info := 0 }
              lz := ⟨packed.length, Memory.ofBytes data, flags, flagI⟩ } (.unpacked data packed.length))

/-- 46_lzss.md R267, R269, R275: LZ_DECOMP reads no byte outside its source, gives exactly the expected size or an
exception; the compressor's output is at most one byte in eight longer than its input. -/
def Obligations.LzBounds : Prop :=
  (∀ (o : FlagOrder) (src : List Byte) (dsize : Nat),
    (lzDecomp o src dsize).1.sp ≤ src.length ∧ (lzDecomp o src dsize).1.dst.length ≤ dsize ∧
    ((lzDecomp o src dsize).2 = none → (lzDecomp o src dsize).1.dst.length = dsize)) ∧
  (∀ (o : FlagOrder) (data : List Byte), (lzComp o data).length ≤ data.length + (data.length + 7) / 8) ∧
  ∀ s : State,
    let o := s.host.operands
    (o.src.length < o.start → exec .lzDecomp s = .next (violated s 4)) ∧
    (o.start ≤ o.src.length → ∀ r why, lzDecomp Config.lzssFlagOrder (o.src.drop o.start) o.dsize = (r, some why) →
      exec .lzDecomp s =
        .next (refusedWith { s with lz := ⟨r.sp, Memory.ofBytes r.dst, r.flags, r.flagI⟩ } 7#4
          (match why with
            | .truncated => 1
            | .badDistance => 2
            | .overflow => 3) none))

/-- 46_lzss.md R268, 30_encoding.md R101: the four byte tokens where the unit reads one; a copy repeats the bytes at its
distance, one by one. The tokens as instructions are the model's (log 9). -/
def Obligations.LzTokens : Prop :=
  ∀ s : State,
    let src := s.host.operands.src.drop s.host.operands.start
    let dst := s.lz.dst.toBytes
    s.lz.dst.size < s.host.operands.dsize →
    (s.lz.sp < src.length →
      (∀ f, exec (.lzFlag f) s = .next (answered { s with lz := { s.lz with sp := s.lz.sp + 1, flags := f } } .done)) ∧
      ∀ c, exec (.lzLiteral c) s =
        .next (answered { s with lz := { s.lz with sp := s.lz.sp + 1, dst := Memory.ofBytes (dst ++ [c]) } } .done)) ∧
    ∀ i used len dist,
      ((∃ l o, i = Instr.lzBackrefShort l o ∧ used = 2 ∧ len = l.toNat + 3 ∧ dist = o.toNat + 1) ∨
        ∃ l o, i = Instr.lzBackrefLong l o ∧ used = 3 ∧ len = l.toNat + 3 ∧ dist = o.toNat + 1) →
      s.lz.sp + used ≤ src.length → dist ≤ s.lz.dst.size → s.lz.dst.size + len ≤ s.host.operands.dsize →
      ∃ out : List Byte,
        exec i s = .next (answered { s with lz := { s.lz with sp := s.lz.sp + used, dst := Memory.ofBytes out } } .done) ∧
        out.length = dst.length + len ∧ dst <+: out ∧
        ∀ k, k < len → out[dst.length + k]? = out[dst.length + k - dist]?

/-! ### Invariants -/

/-- 10_state.md R26 to R28, R37, 20_memory.md R60, R61: every step keeps the byte spaces canonical, the Iki tables at
their sizes, and the reader inside its stream. -/
def Obligations.StepKeepsSpacesAndReader : Prop :=
  ∀ s t : State, step s = .next t → SpacesOk s → ReaderOk s → SpacesOk t ∧ ReaderOk t

/-- 10_state.md R31 to R36, R42, R47, R48, 43_decoder.md R191, R203, R204, R210: every step keeps the decode context, the
state machine, its fault record and the error registers sound. -/
def Obligations.StepKeepsDecoder : Prop :=
  ∀ s t : State, step s = .next t → DecoderOk s → ErrorsOk s → DecoderOk t ∧ ErrorsOk t

/-- 10_state.md R30, R37 to R39, 40_bit_cursor.md R134, 45_qscale_search.md R246: every step keeps the writer, the encoder,
the searcher and the LZSS unit sound. -/
def Obligations.StepKeepsEncoderSide : Prop :=
  ∀ s t : State, step s = .next t → WriterOk s → EncoderOk s → SearcherOk s → LzOk s →
    WriterOk t ∧ EncoderOk t ∧ SearcherOk t ∧ LzOk t

/-- 70_reset_and_hazards.md R314: the state after power-on reset is sound. -/
def Obligations.ResetSound : Prop := Sound State.reset
end

