-- ==== Sys2Proof/Laws/Bits.lean ====
section
/-! SUPPORT. Bit strings and their values (00_scope.md R10, R11). -/

namespace Sys2Proof

@[simp] theorem toBits_length (n v : Nat) : (toBits n v).length = n := by
  induction n with
  | zero => rfl
  | succ n ih => simp [toBits, ih]

@[simp] theorem ofBits_nil : ofBits [] = 0 := rfl

theorem ofBits_foldl (s : Bits) (a : Nat) :
    s.foldl (fun a b => 2 * a + b.toNat) a = a * 2 ^ s.length + ofBits s := by
  induction s generalizing a with
  | nil => simp
  | cons b s ih =>
    unfold ofBits
    simp only [List.foldl_cons, List.length_cons]
    rw [ih, ih (2 * 0 + b.toNat), pow_succ]
    ring

@[simp] theorem ofBits_cons (b : Bool) (s : Bits) : ofBits (b :: s) = b.toNat * 2 ^ s.length + ofBits s := by
  rw [show ofBits (b :: s) = s.foldl (fun a b => 2 * a + b.toNat) (2 * 0 + b.toNat) from rfl, ofBits_foldl]
  simp

theorem ofBits_append (s t : Bits) : ofBits (s ++ t) = ofBits s * 2 ^ t.length + ofBits t := by
  unfold ofBits
  rw [List.foldl_append, ofBits_foldl]
  rfl

theorem ofBits_lt (s : Bits) : ofBits s < 2 ^ s.length := by
  induction s with
  | nil => simp
  | cons b s ih =>
    have : b.toNat ≤ 1 := Bool.toNat_le b
    rw [ofBits_cons, List.length_cons, pow_succ]
    nlinarith [Nat.two_pow_pos s.length]

/-- The bits of a number hold its value modulo their weight. -/
theorem ofBits_toBits (n v : Nat) : ofBits (toBits n v) = v % 2 ^ n := by
  induction n with
  | zero => simp [toBits, Nat.mod_one]
  | succ n ih =>
    rw [toBits, ofBits_cons, ih, toBits_length, Nat.toNat_testBit, Nat.mod_pow_succ]
    ring

/-- Only the low n bits of a number reach its n-bit string. -/
theorem toBits_mod (n m v : Nat) (h : n ≤ m) : toBits n (v % 2 ^ m) = toBits n v := by
  induction n with
  | zero => rfl
  | succ n ih => simp [toBits, Nat.testBit_mod_two_pow, ih (by omega), show n < m by omega]

/-- A bit string is the bits of its value. -/
theorem toBits_ofBits (s : Bits) : toBits s.length (ofBits s) = s := by
  induction s with
  | nil => rfl
  | cons b s ih =>
    have hlt := ofBits_lt s
    rw [List.length_cons, toBits, ofBits_cons]
    congr 1
    · rw [Nat.testBit_eq_decide_div_mod_eq, Nat.add_comm, Nat.add_mul_div_right _ _ (Nat.two_pow_pos _),
        Nat.div_eq_of_lt hlt]
      cases b <;> simp
    · rw [← toBits_mod s.length s.length _ le_rfl, Nat.add_comm, Nat.add_mul_mod_self_right,
        Nat.mod_eq_of_lt hlt, ih]

/-- A field that was written is read back, with the bits after it (30_encoding.md R86). -/
theorem withField_toBits (w : Nat) (x : BitVec w) (rest : Bits) (k : BitVec w → Bits → Decoded) :
    withField w (toBits w x.toNat ++ rest) k = k x rest := by
  have hx : x.toNat % 2 ^ w = x.toNat := Nat.mod_eq_of_lt x.isLt
  simp [withField, ofBits_toBits, hx]

@[simp] theorem commandBits_length (op imm : BitVec 8) : (commandBits op imm).length = 16 := toBits_length _ _

end Sys2Proof
end

