-- ==== Sys2Proof/Laws/Memory.lean ====
section
/-! SUPPORT. The byte spaces (20_memory.md R60, R61): a write is read back, leaves every other byte alone and keeps the
canonical form; a space made of bytes holds exactly those bytes. -/

namespace Sys2Proof.Machine

/-! ### Cell lists -/

theorem cellsWf_tail (n : Nat) (c : Host.Cell) (cs : List Host.Cell) (h : Memory.cellsWf n (c :: cs) = true) :
    Memory.cellsWf n cs = true := by
  cases cs with
  | nil => rfl
  | cons d ds => simp [Memory.cellsWf] at h; exact h.2

/-- In a canonical list every later cell stands at a higher offset. -/
theorem cellsWf_head_lt (n : Nat) (a : Nat) (b : Byte) (cs : List Host.Cell)
    (h : Memory.cellsWf n ((a, b) :: cs) = true) : ∀ c ∈ cs, a < c.1 := by
  induction cs generalizing a b with
  | nil => simp
  | cons d ds ih =>
    simp only [Memory.cellsWf, Bool.and_eq_true, decide_eq_true_eq] at h
    intro c hc
    rcases List.mem_cons.1 hc with rfl | hc
    · exact h.1.1
    · exact Nat.lt_trans h.1.1 (ih d.1 d.2 h.2 c hc)

theorem lookup_of_lt (cs : List Host.Cell) (a : Nat) (h : ∀ c ∈ cs, a < c.1) : Memory.lookup cs a = Memory.fill := by
  induction cs with
  | nil => rfl
  | cons c cs ih =>
    have := h c (by simp)
    simp only [Memory.lookup, if_neg (by omega : ¬ c.1 = a)]
    exact ih fun d hd => h d (by simp [hd])

/-- A written cell reads as what was written; every other offset reads as before. -/
theorem lookup_insert (n : Nat) (cs : List Host.Cell) (a : Nat) (b : Byte) (x : Nat)
    (h : Memory.cellsWf n cs = true) :
    Memory.lookup (Memory.insert cs a b) x = if x = a then b else Memory.lookup cs x := by
  induction cs with
  | nil =>
    by_cases hb : b = Memory.fill <;> by_cases hx : x = a <;>
      simp [Memory.insert, Memory.lookup, hb, hx, Ne.symm (a := x) (b := a)]
  | cons c cs ih =>
    obtain ⟨k, v⟩ := c
    have ht := cellsWf_head_lt n k v cs h
    have hw := cellsWf_tail n _ cs h
    unfold Memory.insert
    split
    · next hk =>
      by_cases hx : x = a
      · subst hx; simp [Memory.lookup, ih hw, show ¬ k = x by omega]
      · simp [Memory.lookup, ih hw, hx]
    · next hk =>
      split
      · next hka =>
        subst hka
        by_cases hb : b = Memory.fill
        · by_cases hx : x = k
          · subst hx; simp [hb, lookup_of_lt cs x ht]
          · simp [hb, hx, Memory.lookup, show ¬ k = x by omega]
        · by_cases hx : x = k
          · simp [hb, hx, Memory.lookup]
          · simp [hb, hx, Memory.lookup, show ¬ k = x by omega]
      · next hka =>
        have hlt : a < k := by omega
        have hlook : Memory.lookup ((k, v) :: cs) a = Memory.fill :=
          lookup_of_lt _ _ fun d hd => by
            rcases List.mem_cons.1 hd with rfl | hd
            · exact hlt
            · exact Nat.lt_trans hlt (ht d hd)
        by_cases hb : b = Memory.fill
        · by_cases hx : x = a
          · subst hx; simp [hb, hlook]
          · simp [hb, hx]
        · by_cases hx : x = a
          · simp [hb, hx, Memory.lookup]
          · simp [hb, hx, Memory.lookup, show ¬ a = x by omega]

/-- Any cell in front of a canonical list at a lower offset keeps it canonical. -/
theorem cellsWf_cons (n a : Nat) (b : Byte) (cs : List Host.Cell) (ha : a < n) (hb : b ≠ Memory.fill)
    (hlt : ∀ c ∈ cs, a < c.1) (h : Memory.cellsWf n cs = true) : Memory.cellsWf n ((a, b) :: cs) = true := by
  cases cs with
  | nil => simp [Memory.cellsWf, ha, hb]
  | cons d ds => simp [Memory.cellsWf, hb, h, hlt d (by simp)]

theorem cellsWf_head (n a : Nat) (b : Byte) (cs : List Host.Cell) (h : Memory.cellsWf n ((a, b) :: cs) = true) :
    b ≠ Memory.fill := by
  cases cs <;> simp [Memory.cellsWf] at h <;> tauto

theorem cellsWf_mem_lt (n : Nat) (cs : List Host.Cell) (h : Memory.cellsWf n cs = true) : ∀ c ∈ cs, c.1 < n := by
  induction cs with
  | nil => simp
  | cons c cs ih =>
    have hw := cellsWf_tail n c cs h
    have ht := cellsWf_head_lt n c.1 c.2 cs h
    intro d hd
    rcases List.mem_cons.1 hd with rfl | hd
    · cases cs with
      | nil => simp [Memory.cellsWf] at h; exact h.1
      | cons e es => exact Nat.lt_trans (ht e (by simp)) (ih hw e (by simp))
    · exact ih hw d hd

theorem mem_insert (cs : List Host.Cell) (a : Nat) (b : Byte) (c : Host.Cell) (h : c ∈ Memory.insert cs a b) :
    c.1 = a ∨ c ∈ cs := by
  induction cs with
  | nil =>
    by_cases hb : b = Memory.fill
    · simp [Memory.insert, hb] at h
    · simp [Memory.insert, hb] at h; simp [h]
  | cons d ds ih =>
    unfold Memory.insert at h
    split at h
    · rcases List.mem_cons.1 h with rfl | h
      · simp
      · rcases ih h with h | h <;> simp [h]
    · split at h
      · split at h
        · simp [h]
        · rcases List.mem_cons.1 h with rfl | h <;> simp [*]
      · split at h
        · exact .inr h
        · rcases List.mem_cons.1 h with rfl | h
          · simp
          · exact .inr h

/-- A write keeps the canonical form of a cell list. -/
theorem cellsWf_insert (n : Nat) (cs : List Host.Cell) (a : Nat) (b : Byte) (ha : a < n)
    (h : Memory.cellsWf n cs = true) : Memory.cellsWf n (Memory.insert cs a b) = true := by
  induction cs with
  | nil => by_cases hb : b = Memory.fill <;> simp [Memory.insert, Memory.cellsWf, hb, ha]
  | cons c cs ih =>
    obtain ⟨k, v⟩ := c
    have ht := cellsWf_head_lt n k v cs h
    have hw := cellsWf_tail n _ cs h
    have hv := cellsWf_head n k v cs h
    have hk := cellsWf_mem_lt n _ h (k, v) (by simp)
    unfold Memory.insert
    split
    · next hlt =>
      refine cellsWf_cons n k v _ hk hv (fun c hc => ?_) (ih hw)
      rcases mem_insert cs a b c hc with h1 | h1
      · omega
      · exact ht c h1
    · split
      · next hka =>
        subst hka
        by_cases hb : b = Memory.fill
        · simp [hb, hw]
        · simp only [hb, if_false]; exact cellsWf_cons n k b cs ha hb ht hw
      · by_cases hb : b = Memory.fill
        · simp only [hb, if_true]; exact h
        · simp only [hb, if_false]
          refine cellsWf_cons n a b _ ha hb (fun c hc => ?_) h
          rcases List.mem_cons.1 hc with rfl | hc
          · simp only; omega
          · have := ht c hc; omega

/-! ### Spaces -/

@[simp] theorem Memory.write_size (m : Memory) (a : Nat) (b : Byte) : (m.write a b).size = m.size := by
  unfold Memory.write; split <;> rfl

/-- A byte that exists reads as what was just written to it. -/
theorem read_write_self (m : Memory) (a : Nat) (b : Byte) (hm : m.wf = true) (ha : a < m.size) :
    (m.write a b).read a = some b := by
  simp [Memory.read, Memory.write, ha, lookup_insert m.size m.cells a b a hm]

/-- A write leaves every other byte as it was. -/
theorem read_write_ne (m : Memory) (a : Nat) (b : Byte) (x : Nat) (hm : m.wf = true) (hx : x ≠ a) :
    (m.write a b).read x = m.read x := by
  by_cases ha : a < m.size
  · simp [Memory.read, Memory.write, ha, lookup_insert m.size m.cells a b x hm, hx]
  · simp [Memory.write, ha]

/-- A write keeps the canonical form. -/
theorem write_wf (m : Memory) (a : Nat) (b : Byte) (hm : m.wf = true) : (m.write a b).wf = true := by
  unfold Memory.write
  split
  · next ha => exact cellsWf_insert m.size m.cells a b ha hm
  · exact hm

@[simp] theorem Memory.empty_wf : Memory.empty.wf = true := rfl

@[simp] theorem Memory.ofBytes_size (bytes : List Byte) : (Memory.ofBytes bytes).size = bytes.length := rfl

theorem cellsFrom_ge (a : Nat) (bytes : List Byte) : ∀ c ∈ Memory.cellsFrom a bytes, a ≤ c.1 := by
  induction bytes generalizing a with
  | nil => simp [Memory.cellsFrom]
  | cons b bs ih =>
    intro c hc
    unfold Memory.cellsFrom at hc
    split at hc
    · exact Nat.le_of_succ_le (ih (a + 1) c hc)
    · rcases List.mem_cons.1 hc with rfl | hc
      · exact le_rfl
      · exact Nat.le_of_succ_le (ih (a + 1) c hc)

theorem cellsFrom_wf (n a : Nat) (bytes : List Byte) (h : a + bytes.length ≤ n) :
    Memory.cellsWf n (Memory.cellsFrom a bytes) = true := by
  induction bytes generalizing a with
  | nil => rfl
  | cons b bs ih =>
    rw [List.length_cons] at h
    unfold Memory.cellsFrom
    split
    · exact ih (a + 1) (by omega)
    · next hb => exact cellsWf_cons n a b _ (by omega) hb (fun c hc => cellsFrom_ge (a + 1) bs c hc) (ih (a + 1) (by omega))

/-- A space made of bytes is canonical. -/
@[simp] theorem Memory.ofBytes_wf (bytes : List Byte) : (Memory.ofBytes bytes).wf = true :=
  cellsFrom_wf bytes.length 0 bytes (by simp)

theorem lookup_cellsFrom (a i : Nat) (bytes : List Byte) :
    Memory.lookup (Memory.cellsFrom a bytes) (a + i) = bytes.getD i Memory.fill := by
  induction bytes generalizing a i with
  | nil => simp [Memory.cellsFrom, Memory.lookup]
  | cons b bs ih =>
    cases i with
    | zero =>
      by_cases hb : b = Memory.fill
      · have := lookup_of_lt (Memory.cellsFrom (a + 1) bs) a fun c hc => cellsFrom_ge (a + 1) bs c hc
        simp [Memory.cellsFrom, hb, this]
      · simp [Memory.cellsFrom, hb, Memory.lookup]
    | succ i =>
      have h := ih (a + 1) i
      rw [show a + 1 + i = a + (i + 1) by omega] at h
      by_cases hb : b = Memory.fill <;> simp [Memory.cellsFrom, hb, Memory.lookup, h]

/-- A space made of bytes reads as those bytes, and as nothing beyond them. -/
theorem read_ofBytes (bytes : List Byte) (a : Nat) : (Memory.ofBytes bytes).read a = bytes[a]? := by
  have h := lookup_cellsFrom 0 a bytes
  rw [Nat.zero_add] at h
  unfold Memory.read Memory.ofBytes
  by_cases ha : a < bytes.length
  · simp [ha, h]
  · simp [ha]

/-- The bytes of a space made of bytes are those bytes. -/
theorem toBytes_ofBytes (bytes : List Byte) : (Memory.ofBytes bytes).toBytes = bytes := by
  apply List.ext_getElem
  · simp [Memory.toBytes]
  · intro i h1 h2
    have h := lookup_cellsFrom 0 i bytes
    rw [Nat.zero_add] at h
    simp [Memory.toBytes, Memory.ofBytes, h, h2]

/-! ### The Iki table (44_encoder.md R233) -/

@[simp] theorem ikiPack_size (n : Nat) (t : Memory) (k : Nat) (c : MdecCode) : (ikiPack n t k c).size = t.size := by
  simp [ikiPack]

/-- Packing an entry keeps the canonical form. -/
theorem ikiPack_wf (n : Nat) (t : Memory) (k : Nat) (c : MdecCode) (h : t.wf = true) : (ikiPack n t k c).wf = true :=
  write_wf _ _ _ (write_wf _ _ _ h)

end Sys2Proof.Machine
end

