-- ==== Sys2Proof/Laws/PerInstr.lean ====
section
/-! SUPPORT. The family of statements made of every instruction: its encoding has the length the opcode table gives
its row. -/

namespace Sys2Proof

/-- How many bits the opcode table gives each row (30_encoding.md R86, R87, R91, R92, R95, R96, R98, R101, R103). -/
def Instr.tableBits : Instr → Nat
  | .eob | .dcv3ChromaS0 => 2
  | .ac_0_p1 | .ac_0_n1 | .dcv3LumaS0 | .dcv3LumaS1 _ | .dcv3ChromaS1 _ => 3
  | .ac_1_p1 | .ac_1_n1 | .dcv3LumaS2 _ | .dcv3ChromaS2 _ => 4
  | .ac_0_p2 | .ac_0_n2 | .ac_2_p1 | .ac_2_n1 => 5
  | .ac_0_p3 | .ac_0_n3 | .ac_3_p1 | .ac_3_n1 | .ac_4_p1 | .ac_4_n1 | .esc | .dcv3LumaS3 _ | .dcv3ChromaS3 _ => 6
  | .ac_1_p2 | .ac_1_n2 | .ac_5_p1 | .ac_5_n1 | .ac_6_p1 | .ac_6_n1 | .ac_7_p1 | .ac_7_n1 | .dcv3LumaS4 _ => 7
  | .ac_0_p4 | .ac_0_n4 | .ac_2_p2 | .ac_2_n2 | .ac_8_p1 | .ac_8_n1 | .ac_9_p1 | .ac_9_n1 | .dcv3ChromaS4 _
  | .lzFlag _ | .lzLiteral _ => 8
  | .ac_0_p5 | .ac_0_n5 | .ac_0_p6 | .ac_0_n6 | .ac_1_p3 | .ac_1_n3 | .ac_3_p2 | .ac_3_n2 | .ac_10_p1
  | .ac_10_n1 | .ac_11_p1 | .ac_11_n1 | .ac_12_p1 | .ac_12_n1 | .ac_13_p1 | .ac_13_n1 | .dcv3LumaS5 _ => 9
  | .dc10 _ | .dcv3ChromaS5 _ | .pad10Strv2 | .pad10Strv3 => 10
  | .ac_0_p7 | .ac_0_n7 | .ac_1_p4 | .ac_1_n4 | .ac_2_p3 | .ac_2_n3 | .ac_4_p2 | .ac_4_n2 | .ac_5_p2 | .ac_5_n2
  | .ac_14_p1 | .ac_14_n1 | .ac_15_p1 | .ac_15_n1 | .ac_16_p1 | .ac_16_n1 | .dcv3LumaS6 _ => 11
  | .dcv3ChromaS6 _ => 12
  | .ac_0_p8 | .ac_0_n8 | .ac_0_p9 | .ac_0_n9 | .ac_0_p10 | .ac_0_n10 | .ac_0_p11 | .ac_0_n11 | .ac_1_p5
  | .ac_1_n5 | .ac_2_p4 | .ac_2_n4 | .ac_3_p3 | .ac_3_n3 | .ac_4_p3 | .ac_4_n3 | .ac_6_p2 | .ac_6_n2 | .ac_7_p2
  | .ac_7_n2 | .ac_8_p2 | .ac_8_n2 | .ac_17_p1 | .ac_17_n1 | .ac_18_p1 | .ac_18_n1 | .ac_19_p1 | .ac_19_n1
  | .ac_20_p1 | .ac_20_n1 | .ac_21_p1 | .ac_21_n1 | .dcv3LumaS7 _ => 13
  | .ac_0_p12 | .ac_0_n12 | .ac_0_p13 | .ac_0_n13 | .ac_0_p14 | .ac_0_n14 | .ac_0_p15 | .ac_0_n15 | .ac_1_p6
  | .ac_1_n6 | .ac_1_p7 | .ac_1_n7 | .ac_2_p5 | .ac_2_n5 | .ac_3_p4 | .ac_3_n4 | .ac_5_p3 | .ac_5_n3 | .ac_9_p2
  | .ac_9_n2 | .ac_10_p2 | .ac_10_n2 | .ac_22_p1 | .ac_22_n1 | .ac_23_p1 | .ac_23_n1 | .ac_24_p1 | .ac_24_n1
  | .ac_25_p1 | .ac_25_n1 | .ac_26_p1 | .ac_26_n1 | .dcv3ChromaS7 _ | .escLainPayloadShort _ _ => 14
  | .ac_0_p16 | .ac_0_n16 | .ac_0_p17 | .ac_0_n17 | .ac_0_p18 | .ac_0_n18 | .ac_0_p19 | .ac_0_n19 | .ac_0_p20
  | .ac_0_n20 | .ac_0_p21 | .ac_0_n21 | .ac_0_p22 | .ac_0_n22 | .ac_0_p23 | .ac_0_n23 | .ac_0_p24 | .ac_0_n24
  | .ac_0_p25 | .ac_0_n25 | .ac_0_p26 | .ac_0_n26 | .ac_0_p27 | .ac_0_n27 | .ac_0_p28 | .ac_0_n28 | .ac_0_p29
  | .ac_0_n29 | .ac_0_p30 | .ac_0_n30 | .ac_0_p31 | .ac_0_n31 | .dcv3LumaS8 _ => 15
  | .reset | .brInit _ | .brReadu _ | .brReads _ | .brPeeku _ | .brPeeks _ | .brSkip _ | .brBitsread
  | .brBitsrem | .bwInit _ _ | .bwWritev _ | .bwWritestr | .bwFinal | .ctDecode _ | .ctEncode _ | .hdrIdentify
  | .decStart _ | .decNext | .decStatus | .encFrame _ | .srchSingle _ | .srchPartial _ | .srchLain | .srchIki
  | .lzDecomp | .lzComp | .ac_0_p32 | .ac_0_n32 | .ac_0_p33 | .ac_0_n33 | .ac_0_p34 | .ac_0_n34 | .ac_0_p35
  | .ac_0_n35 | .ac_0_p36 | .ac_0_n36 | .ac_0_p37 | .ac_0_n37 | .ac_0_p38 | .ac_0_n38 | .ac_0_p39 | .ac_0_n39
  | .ac_0_p40 | .ac_0_n40 | .ac_1_p8 | .ac_1_n8 | .ac_1_p9 | .ac_1_n9 | .ac_1_p10 | .ac_1_n10 | .ac_1_p11
  | .ac_1_n11 | .ac_1_p12 | .ac_1_n12 | .ac_1_p13 | .ac_1_n13 | .ac_1_p14 | .ac_1_n14 | .dcv3ChromaS8 _
  | .escStdPayload _ _ | .lzBackrefShort _ _ => 16
  | .ac_1_p15 | .ac_1_n15 | .ac_1_p16 | .ac_1_n16 | .ac_1_p17 | .ac_1_n17 | .ac_1_p18 | .ac_1_n18 | .ac_6_p3
  | .ac_6_n3 | .ac_11_p2 | .ac_11_n2 | .ac_12_p2 | .ac_12_n2 | .ac_13_p2 | .ac_13_n2 | .ac_14_p2 | .ac_14_n2
  | .ac_15_p2 | .ac_15_n2 | .ac_16_p2 | .ac_16_n2 | .ac_27_p1 | .ac_27_n1 | .ac_28_p1 | .ac_28_n1 | .ac_29_p1
  | .ac_29_n1 | .ac_30_p1 | .ac_30_n1 | .ac_31_p1 | .ac_31_n1 => 17
  | .escLainPayloadPos _ _ | .escLainPayloadNeg _ _ => 22
  | .lzBackrefLong _ _ => 24

namespace Laws.Length

/-- The encoding of an instruction is as long as its row of the opcode table. -/
abbrev Statement (i : Instr) : Prop := (encode i).length = i.tableBits

/-- The lengths of the 224 bit strings as the opcode table gives them, in ordinal order. -/
def codeLengths : List Nat :=
  [3, 3, 4, 4, 5, 5, 5, 5, 6, 6, 6, 6, 6, 6, 7, 7, 7, 7, 7, 7, 7, 7, 8, 8, 8, 8, 8, 8, 8, 8, 9, 9,
   9, 9, 9, 9, 9, 9, 9, 9, 9, 9, 9, 9, 9, 9, 11, 11, 11, 11, 11, 11, 11, 11, 11, 11, 11, 11, 11, 11, 11, 11, 13, 13,
   13, 13, 13, 13, 13, 13, 13, 13, 13, 13, 13, 13, 13, 13, 13, 13, 13, 13, 13, 13, 13, 13, 13, 13, 13, 13, 13, 13, 13, 13, 14, 14,
   14, 14, 14, 14, 14, 14, 14, 14, 14, 14, 14, 14, 14, 14, 14, 14, 14, 14, 14, 14, 14, 14, 14, 14, 14, 14, 14, 14, 14, 14, 15, 15,
   15, 15, 15, 15, 15, 15, 15, 15, 15, 15, 15, 15, 15, 15, 15, 15, 15, 15, 15, 15, 15, 15, 15, 15, 15, 15, 15, 15, 15, 15, 16, 16,
   16, 16, 16, 16, 16, 16, 16, 16, 16, 16, 16, 16, 16, 16, 16, 16, 16, 16, 16, 16, 16, 16, 16, 16, 16, 16, 16, 16, 16, 16, 17, 17,
   17, 17, 17, 17, 17, 17, 17, 17, 17, 17, 17, 17, 17, 17, 17, 17, 17, 17, 17, 17, 17, 17, 17, 17, 17, 17, 17, 17, 17, 17, 2, 6]

theorem codeBits_lengths : (List.range 224).map (fun k => (codeBits k).length) = codeLengths := by decide +kernel

theorem codeBits_length (k n : Nat) (h : codeLengths[k]? = some n) : (codeBits k).length = n := by
  rw [← codeBits_lengths, List.getElem?_map] at h
  rw [Option.map_eq_some_iff] at h
  obtain ⟨j, hj, h⟩ := h
  rw [List.getElem?_eq_some_iff] at hj
  obtain ⟨_, hj⟩ := hj
  simp only [List.getElem_range] at hj
  subst hj
  exact h

theorem fieldAfter_length (head : Bits) (w v : Nat) : (head ++ toBits w v).length = head.length + w := by simp

theorem reset : Statement .reset := commandBits_length _ _
theorem brInit (pol : Policy) : Statement (.brInit pol) := commandBits_length _ _
theorem brReadu (n : BitVec 5) : Statement (.brReadu n) := commandBits_length _ _
theorem brReads (n : BitVec 5) : Statement (.brReads n) := commandBits_length _ _
theorem brPeeku (n : BitVec 5) : Statement (.brPeeku n) := commandBits_length _ _
theorem brPeeks (n : BitVec 5) : Statement (.brPeeks n) := commandBits_length _ _
theorem brSkip (n : BitVec 5) : Statement (.brSkip n) := commandBits_length _ _
theorem brBitsread : Statement .brBitsread := commandBits_length _ _
theorem brBitsrem : Statement .brBitsrem := commandBits_length _ _
theorem bwInit (pol : Policy) (al : BitVec 2) : Statement (.bwInit pol al) := commandBits_length _ _
theorem bwWritev (n : BitVec 5) : Statement (.bwWritev n) := commandBits_length _ _
theorem bwWritestr : Statement .bwWritestr := commandBits_length _ _
theorem bwFinal : Statement .bwFinal := commandBits_length _ _
theorem ctDecode (dia : Dialect) : Statement (.ctDecode dia) := commandBits_length _ _
theorem ctEncode (dia : Dialect) : Statement (.ctEncode dia) := commandBits_length _ _
theorem hdrIdentify : Statement .hdrIdentify := commandBits_length _ _
theorem decStart (fmt : BitVec 3) : Statement (.decStart fmt) := commandBits_length _ _
theorem decNext : Statement .decNext := commandBits_length _ _
theorem decStatus : Statement .decStatus := commandBits_length _ _
theorem encFrame (fmt : BitVec 3) : Statement (.encFrame fmt) := commandBits_length _ _
theorem srchSingle (fmt : BitVec 3) : Statement (.srchSingle fmt) := commandBits_length _ _
theorem srchPartial (fmt : BitVec 3) : Statement (.srchPartial fmt) := commandBits_length _ _
theorem srchLain : Statement .srchLain := commandBits_length _ _
theorem srchIki : Statement .srchIki := commandBits_length _ _
theorem lzDecomp : Statement .lzDecomp := commandBits_length _ _
theorem lzComp : Statement .lzComp := commandBits_length _ _
theorem ac_0_p1 : Statement .ac_0_p1 := codeBits_length 0 3 rfl
theorem ac_0_n1 : Statement .ac_0_n1 := codeBits_length 1 3 rfl
theorem ac_1_p1 : Statement .ac_1_p1 := codeBits_length 2 4 rfl
theorem ac_1_n1 : Statement .ac_1_n1 := codeBits_length 3 4 rfl
theorem ac_0_p2 : Statement .ac_0_p2 := codeBits_length 4 5 rfl
theorem ac_0_n2 : Statement .ac_0_n2 := codeBits_length 5 5 rfl
theorem ac_2_p1 : Statement .ac_2_p1 := codeBits_length 6 5 rfl
theorem ac_2_n1 : Statement .ac_2_n1 := codeBits_length 7 5 rfl
theorem ac_0_p3 : Statement .ac_0_p3 := codeBits_length 8 6 rfl
theorem ac_0_n3 : Statement .ac_0_n3 := codeBits_length 9 6 rfl
theorem ac_3_p1 : Statement .ac_3_p1 := codeBits_length 10 6 rfl
theorem ac_3_n1 : Statement .ac_3_n1 := codeBits_length 11 6 rfl
theorem ac_4_p1 : Statement .ac_4_p1 := codeBits_length 12 6 rfl
theorem ac_4_n1 : Statement .ac_4_n1 := codeBits_length 13 6 rfl
theorem ac_1_p2 : Statement .ac_1_p2 := codeBits_length 14 7 rfl
theorem ac_1_n2 : Statement .ac_1_n2 := codeBits_length 15 7 rfl
theorem ac_5_p1 : Statement .ac_5_p1 := codeBits_length 16 7 rfl
theorem ac_5_n1 : Statement .ac_5_n1 := codeBits_length 17 7 rfl
theorem ac_6_p1 : Statement .ac_6_p1 := codeBits_length 18 7 rfl
theorem ac_6_n1 : Statement .ac_6_n1 := codeBits_length 19 7 rfl
theorem ac_7_p1 : Statement .ac_7_p1 := codeBits_length 20 7 rfl
theorem ac_7_n1 : Statement .ac_7_n1 := codeBits_length 21 7 rfl
theorem ac_0_p4 : Statement .ac_0_p4 := codeBits_length 22 8 rfl
theorem ac_0_n4 : Statement .ac_0_n4 := codeBits_length 23 8 rfl
theorem ac_2_p2 : Statement .ac_2_p2 := codeBits_length 24 8 rfl
theorem ac_2_n2 : Statement .ac_2_n2 := codeBits_length 25 8 rfl
theorem ac_8_p1 : Statement .ac_8_p1 := codeBits_length 26 8 rfl
theorem ac_8_n1 : Statement .ac_8_n1 := codeBits_length 27 8 rfl
theorem ac_9_p1 : Statement .ac_9_p1 := codeBits_length 28 8 rfl
theorem ac_9_n1 : Statement .ac_9_n1 := codeBits_length 29 8 rfl
theorem ac_0_p5 : Statement .ac_0_p5 := codeBits_length 30 9 rfl
theorem ac_0_n5 : Statement .ac_0_n5 := codeBits_length 31 9 rfl
theorem ac_0_p6 : Statement .ac_0_p6 := codeBits_length 32 9 rfl
theorem ac_0_n6 : Statement .ac_0_n6 := codeBits_length 33 9 rfl
theorem ac_1_p3 : Statement .ac_1_p3 := codeBits_length 34 9 rfl
theorem ac_1_n3 : Statement .ac_1_n3 := codeBits_length 35 9 rfl
theorem ac_3_p2 : Statement .ac_3_p2 := codeBits_length 36 9 rfl
theorem ac_3_n2 : Statement .ac_3_n2 := codeBits_length 37 9 rfl
theorem ac_10_p1 : Statement .ac_10_p1 := codeBits_length 38 9 rfl
theorem ac_10_n1 : Statement .ac_10_n1 := codeBits_length 39 9 rfl
theorem ac_11_p1 : Statement .ac_11_p1 := codeBits_length 40 9 rfl
theorem ac_11_n1 : Statement .ac_11_n1 := codeBits_length 41 9 rfl
theorem ac_12_p1 : Statement .ac_12_p1 := codeBits_length 42 9 rfl
theorem ac_12_n1 : Statement .ac_12_n1 := codeBits_length 43 9 rfl
theorem ac_13_p1 : Statement .ac_13_p1 := codeBits_length 44 9 rfl
theorem ac_13_n1 : Statement .ac_13_n1 := codeBits_length 45 9 rfl
theorem ac_0_p7 : Statement .ac_0_p7 := codeBits_length 46 11 rfl
theorem ac_0_n7 : Statement .ac_0_n7 := codeBits_length 47 11 rfl
theorem ac_1_p4 : Statement .ac_1_p4 := codeBits_length 48 11 rfl
theorem ac_1_n4 : Statement .ac_1_n4 := codeBits_length 49 11 rfl
theorem ac_2_p3 : Statement .ac_2_p3 := codeBits_length 50 11 rfl
theorem ac_2_n3 : Statement .ac_2_n3 := codeBits_length 51 11 rfl
theorem ac_4_p2 : Statement .ac_4_p2 := codeBits_length 52 11 rfl
theorem ac_4_n2 : Statement .ac_4_n2 := codeBits_length 53 11 rfl
theorem ac_5_p2 : Statement .ac_5_p2 := codeBits_length 54 11 rfl
theorem ac_5_n2 : Statement .ac_5_n2 := codeBits_length 55 11 rfl
theorem ac_14_p1 : Statement .ac_14_p1 := codeBits_length 56 11 rfl
theorem ac_14_n1 : Statement .ac_14_n1 := codeBits_length 57 11 rfl
theorem ac_15_p1 : Statement .ac_15_p1 := codeBits_length 58 11 rfl
theorem ac_15_n1 : Statement .ac_15_n1 := codeBits_length 59 11 rfl
theorem ac_16_p1 : Statement .ac_16_p1 := codeBits_length 60 11 rfl
theorem ac_16_n1 : Statement .ac_16_n1 := codeBits_length 61 11 rfl
theorem ac_0_p8 : Statement .ac_0_p8 := codeBits_length 62 13 rfl
theorem ac_0_n8 : Statement .ac_0_n8 := codeBits_length 63 13 rfl
theorem ac_0_p9 : Statement .ac_0_p9 := codeBits_length 64 13 rfl
theorem ac_0_n9 : Statement .ac_0_n9 := codeBits_length 65 13 rfl
theorem ac_0_p10 : Statement .ac_0_p10 := codeBits_length 66 13 rfl
theorem ac_0_n10 : Statement .ac_0_n10 := codeBits_length 67 13 rfl
theorem ac_0_p11 : Statement .ac_0_p11 := codeBits_length 68 13 rfl
theorem ac_0_n11 : Statement .ac_0_n11 := codeBits_length 69 13 rfl
theorem ac_1_p5 : Statement .ac_1_p5 := codeBits_length 70 13 rfl
theorem ac_1_n5 : Statement .ac_1_n5 := codeBits_length 71 13 rfl
theorem ac_2_p4 : Statement .ac_2_p4 := codeBits_length 72 13 rfl
theorem ac_2_n4 : Statement .ac_2_n4 := codeBits_length 73 13 rfl
theorem ac_3_p3 : Statement .ac_3_p3 := codeBits_length 74 13 rfl
theorem ac_3_n3 : Statement .ac_3_n3 := codeBits_length 75 13 rfl
theorem ac_4_p3 : Statement .ac_4_p3 := codeBits_length 76 13 rfl
theorem ac_4_n3 : Statement .ac_4_n3 := codeBits_length 77 13 rfl
theorem ac_6_p2 : Statement .ac_6_p2 := codeBits_length 78 13 rfl
theorem ac_6_n2 : Statement .ac_6_n2 := codeBits_length 79 13 rfl
theorem ac_7_p2 : Statement .ac_7_p2 := codeBits_length 80 13 rfl
theorem ac_7_n2 : Statement .ac_7_n2 := codeBits_length 81 13 rfl
theorem ac_8_p2 : Statement .ac_8_p2 := codeBits_length 82 13 rfl
theorem ac_8_n2 : Statement .ac_8_n2 := codeBits_length 83 13 rfl
theorem ac_17_p1 : Statement .ac_17_p1 := codeBits_length 84 13 rfl
theorem ac_17_n1 : Statement .ac_17_n1 := codeBits_length 85 13 rfl
theorem ac_18_p1 : Statement .ac_18_p1 := codeBits_length 86 13 rfl
theorem ac_18_n1 : Statement .ac_18_n1 := codeBits_length 87 13 rfl
theorem ac_19_p1 : Statement .ac_19_p1 := codeBits_length 88 13 rfl
theorem ac_19_n1 : Statement .ac_19_n1 := codeBits_length 89 13 rfl
theorem ac_20_p1 : Statement .ac_20_p1 := codeBits_length 90 13 rfl
theorem ac_20_n1 : Statement .ac_20_n1 := codeBits_length 91 13 rfl
theorem ac_21_p1 : Statement .ac_21_p1 := codeBits_length 92 13 rfl
theorem ac_21_n1 : Statement .ac_21_n1 := codeBits_length 93 13 rfl
theorem ac_0_p12 : Statement .ac_0_p12 := codeBits_length 94 14 rfl
theorem ac_0_n12 : Statement .ac_0_n12 := codeBits_length 95 14 rfl
theorem ac_0_p13 : Statement .ac_0_p13 := codeBits_length 96 14 rfl
theorem ac_0_n13 : Statement .ac_0_n13 := codeBits_length 97 14 rfl
theorem ac_0_p14 : Statement .ac_0_p14 := codeBits_length 98 14 rfl
theorem ac_0_n14 : Statement .ac_0_n14 := codeBits_length 99 14 rfl
theorem ac_0_p15 : Statement .ac_0_p15 := codeBits_length 100 14 rfl
theorem ac_0_n15 : Statement .ac_0_n15 := codeBits_length 101 14 rfl
theorem ac_1_p6 : Statement .ac_1_p6 := codeBits_length 102 14 rfl
theorem ac_1_n6 : Statement .ac_1_n6 := codeBits_length 103 14 rfl
theorem ac_1_p7 : Statement .ac_1_p7 := codeBits_length 104 14 rfl
theorem ac_1_n7 : Statement .ac_1_n7 := codeBits_length 105 14 rfl
theorem ac_2_p5 : Statement .ac_2_p5 := codeBits_length 106 14 rfl
theorem ac_2_n5 : Statement .ac_2_n5 := codeBits_length 107 14 rfl
theorem ac_3_p4 : Statement .ac_3_p4 := codeBits_length 108 14 rfl
theorem ac_3_n4 : Statement .ac_3_n4 := codeBits_length 109 14 rfl
theorem ac_5_p3 : Statement .ac_5_p3 := codeBits_length 110 14 rfl
theorem ac_5_n3 : Statement .ac_5_n3 := codeBits_length 111 14 rfl
theorem ac_9_p2 : Statement .ac_9_p2 := codeBits_length 112 14 rfl
theorem ac_9_n2 : Statement .ac_9_n2 := codeBits_length 113 14 rfl
theorem ac_10_p2 : Statement .ac_10_p2 := codeBits_length 114 14 rfl
theorem ac_10_n2 : Statement .ac_10_n2 := codeBits_length 115 14 rfl
theorem ac_22_p1 : Statement .ac_22_p1 := codeBits_length 116 14 rfl
theorem ac_22_n1 : Statement .ac_22_n1 := codeBits_length 117 14 rfl
theorem ac_23_p1 : Statement .ac_23_p1 := codeBits_length 118 14 rfl
theorem ac_23_n1 : Statement .ac_23_n1 := codeBits_length 119 14 rfl
theorem ac_24_p1 : Statement .ac_24_p1 := codeBits_length 120 14 rfl
theorem ac_24_n1 : Statement .ac_24_n1 := codeBits_length 121 14 rfl
theorem ac_25_p1 : Statement .ac_25_p1 := codeBits_length 122 14 rfl
theorem ac_25_n1 : Statement .ac_25_n1 := codeBits_length 123 14 rfl
theorem ac_26_p1 : Statement .ac_26_p1 := codeBits_length 124 14 rfl
theorem ac_26_n1 : Statement .ac_26_n1 := codeBits_length 125 14 rfl
theorem ac_0_p16 : Statement .ac_0_p16 := codeBits_length 126 15 rfl
theorem ac_0_n16 : Statement .ac_0_n16 := codeBits_length 127 15 rfl
theorem ac_0_p17 : Statement .ac_0_p17 := codeBits_length 128 15 rfl
theorem ac_0_n17 : Statement .ac_0_n17 := codeBits_length 129 15 rfl
theorem ac_0_p18 : Statement .ac_0_p18 := codeBits_length 130 15 rfl
theorem ac_0_n18 : Statement .ac_0_n18 := codeBits_length 131 15 rfl
theorem ac_0_p19 : Statement .ac_0_p19 := codeBits_length 132 15 rfl
theorem ac_0_n19 : Statement .ac_0_n19 := codeBits_length 133 15 rfl
theorem ac_0_p20 : Statement .ac_0_p20 := codeBits_length 134 15 rfl
theorem ac_0_n20 : Statement .ac_0_n20 := codeBits_length 135 15 rfl
theorem ac_0_p21 : Statement .ac_0_p21 := codeBits_length 136 15 rfl
theorem ac_0_n21 : Statement .ac_0_n21 := codeBits_length 137 15 rfl
theorem ac_0_p22 : Statement .ac_0_p22 := codeBits_length 138 15 rfl
theorem ac_0_n22 : Statement .ac_0_n22 := codeBits_length 139 15 rfl
theorem ac_0_p23 : Statement .ac_0_p23 := codeBits_length 140 15 rfl
theorem ac_0_n23 : Statement .ac_0_n23 := codeBits_length 141 15 rfl
theorem ac_0_p24 : Statement .ac_0_p24 := codeBits_length 142 15 rfl
theorem ac_0_n24 : Statement .ac_0_n24 := codeBits_length 143 15 rfl
theorem ac_0_p25 : Statement .ac_0_p25 := codeBits_length 144 15 rfl
theorem ac_0_n25 : Statement .ac_0_n25 := codeBits_length 145 15 rfl
theorem ac_0_p26 : Statement .ac_0_p26 := codeBits_length 146 15 rfl
theorem ac_0_n26 : Statement .ac_0_n26 := codeBits_length 147 15 rfl
theorem ac_0_p27 : Statement .ac_0_p27 := codeBits_length 148 15 rfl
theorem ac_0_n27 : Statement .ac_0_n27 := codeBits_length 149 15 rfl
theorem ac_0_p28 : Statement .ac_0_p28 := codeBits_length 150 15 rfl
theorem ac_0_n28 : Statement .ac_0_n28 := codeBits_length 151 15 rfl
theorem ac_0_p29 : Statement .ac_0_p29 := codeBits_length 152 15 rfl
theorem ac_0_n29 : Statement .ac_0_n29 := codeBits_length 153 15 rfl
theorem ac_0_p30 : Statement .ac_0_p30 := codeBits_length 154 15 rfl
theorem ac_0_n30 : Statement .ac_0_n30 := codeBits_length 155 15 rfl
theorem ac_0_p31 : Statement .ac_0_p31 := codeBits_length 156 15 rfl
theorem ac_0_n31 : Statement .ac_0_n31 := codeBits_length 157 15 rfl
theorem ac_0_p32 : Statement .ac_0_p32 := codeBits_length 158 16 rfl
theorem ac_0_n32 : Statement .ac_0_n32 := codeBits_length 159 16 rfl
theorem ac_0_p33 : Statement .ac_0_p33 := codeBits_length 160 16 rfl
theorem ac_0_n33 : Statement .ac_0_n33 := codeBits_length 161 16 rfl
theorem ac_0_p34 : Statement .ac_0_p34 := codeBits_length 162 16 rfl
theorem ac_0_n34 : Statement .ac_0_n34 := codeBits_length 163 16 rfl
theorem ac_0_p35 : Statement .ac_0_p35 := codeBits_length 164 16 rfl
theorem ac_0_n35 : Statement .ac_0_n35 := codeBits_length 165 16 rfl
theorem ac_0_p36 : Statement .ac_0_p36 := codeBits_length 166 16 rfl
theorem ac_0_n36 : Statement .ac_0_n36 := codeBits_length 167 16 rfl
theorem ac_0_p37 : Statement .ac_0_p37 := codeBits_length 168 16 rfl
theorem ac_0_n37 : Statement .ac_0_n37 := codeBits_length 169 16 rfl
theorem ac_0_p38 : Statement .ac_0_p38 := codeBits_length 170 16 rfl
theorem ac_0_n38 : Statement .ac_0_n38 := codeBits_length 171 16 rfl
theorem ac_0_p39 : Statement .ac_0_p39 := codeBits_length 172 16 rfl
theorem ac_0_n39 : Statement .ac_0_n39 := codeBits_length 173 16 rfl
theorem ac_0_p40 : Statement .ac_0_p40 := codeBits_length 174 16 rfl
theorem ac_0_n40 : Statement .ac_0_n40 := codeBits_length 175 16 rfl
theorem ac_1_p8 : Statement .ac_1_p8 := codeBits_length 176 16 rfl
theorem ac_1_n8 : Statement .ac_1_n8 := codeBits_length 177 16 rfl
theorem ac_1_p9 : Statement .ac_1_p9 := codeBits_length 178 16 rfl
theorem ac_1_n9 : Statement .ac_1_n9 := codeBits_length 179 16 rfl
theorem ac_1_p10 : Statement .ac_1_p10 := codeBits_length 180 16 rfl
theorem ac_1_n10 : Statement .ac_1_n10 := codeBits_length 181 16 rfl
theorem ac_1_p11 : Statement .ac_1_p11 := codeBits_length 182 16 rfl
theorem ac_1_n11 : Statement .ac_1_n11 := codeBits_length 183 16 rfl
theorem ac_1_p12 : Statement .ac_1_p12 := codeBits_length 184 16 rfl
theorem ac_1_n12 : Statement .ac_1_n12 := codeBits_length 185 16 rfl
theorem ac_1_p13 : Statement .ac_1_p13 := codeBits_length 186 16 rfl
theorem ac_1_n13 : Statement .ac_1_n13 := codeBits_length 187 16 rfl
theorem ac_1_p14 : Statement .ac_1_p14 := codeBits_length 188 16 rfl
theorem ac_1_n14 : Statement .ac_1_n14 := codeBits_length 189 16 rfl
theorem ac_1_p15 : Statement .ac_1_p15 := codeBits_length 190 17 rfl
theorem ac_1_n15 : Statement .ac_1_n15 := codeBits_length 191 17 rfl
theorem ac_1_p16 : Statement .ac_1_p16 := codeBits_length 192 17 rfl
theorem ac_1_n16 : Statement .ac_1_n16 := codeBits_length 193 17 rfl
theorem ac_1_p17 : Statement .ac_1_p17 := codeBits_length 194 17 rfl
theorem ac_1_n17 : Statement .ac_1_n17 := codeBits_length 195 17 rfl
theorem ac_1_p18 : Statement .ac_1_p18 := codeBits_length 196 17 rfl
theorem ac_1_n18 : Statement .ac_1_n18 := codeBits_length 197 17 rfl
theorem ac_6_p3 : Statement .ac_6_p3 := codeBits_length 198 17 rfl
theorem ac_6_n3 : Statement .ac_6_n3 := codeBits_length 199 17 rfl
theorem ac_11_p2 : Statement .ac_11_p2 := codeBits_length 200 17 rfl
theorem ac_11_n2 : Statement .ac_11_n2 := codeBits_length 201 17 rfl
theorem ac_12_p2 : Statement .ac_12_p2 := codeBits_length 202 17 rfl
theorem ac_12_n2 : Statement .ac_12_n2 := codeBits_length 203 17 rfl
theorem ac_13_p2 : Statement .ac_13_p2 := codeBits_length 204 17 rfl
theorem ac_13_n2 : Statement .ac_13_n2 := codeBits_length 205 17 rfl
theorem ac_14_p2 : Statement .ac_14_p2 := codeBits_length 206 17 rfl
theorem ac_14_n2 : Statement .ac_14_n2 := codeBits_length 207 17 rfl
theorem ac_15_p2 : Statement .ac_15_p2 := codeBits_length 208 17 rfl
theorem ac_15_n2 : Statement .ac_15_n2 := codeBits_length 209 17 rfl
theorem ac_16_p2 : Statement .ac_16_p2 := codeBits_length 210 17 rfl
theorem ac_16_n2 : Statement .ac_16_n2 := codeBits_length 211 17 rfl
theorem ac_27_p1 : Statement .ac_27_p1 := codeBits_length 212 17 rfl
theorem ac_27_n1 : Statement .ac_27_n1 := codeBits_length 213 17 rfl
theorem ac_28_p1 : Statement .ac_28_p1 := codeBits_length 214 17 rfl
theorem ac_28_n1 : Statement .ac_28_n1 := codeBits_length 215 17 rfl
theorem ac_29_p1 : Statement .ac_29_p1 := codeBits_length 216 17 rfl
theorem ac_29_n1 : Statement .ac_29_n1 := codeBits_length 217 17 rfl
theorem ac_30_p1 : Statement .ac_30_p1 := codeBits_length 218 17 rfl
theorem ac_30_n1 : Statement .ac_30_n1 := codeBits_length 219 17 rfl
theorem ac_31_p1 : Statement .ac_31_p1 := codeBits_length 220 17 rfl
theorem ac_31_n1 : Statement .ac_31_n1 := codeBits_length 221 17 rfl
theorem eob : Statement .eob := codeBits_length 222 2 rfl
theorem esc : Statement .esc := codeBits_length 223 6 rfl
theorem dc10 (v : BitVec 10) : Statement (.dc10 v) := toBits_length 10 _
theorem dcv3LumaS0 : Statement .dcv3LumaS0 := rfl
theorem dcv3LumaS1 (d : BitVec 1) : Statement (.dcv3LumaS1 d) := fieldAfter_length (dcCode true 1) 1 _
theorem dcv3LumaS2 (d : BitVec 2) : Statement (.dcv3LumaS2 d) := fieldAfter_length (dcCode true 2) 2 _
theorem dcv3LumaS3 (d : BitVec 3) : Statement (.dcv3LumaS3 d) := fieldAfter_length (dcCode true 3) 3 _
theorem dcv3LumaS4 (d : BitVec 4) : Statement (.dcv3LumaS4 d) := fieldAfter_length (dcCode true 4) 4 _
theorem dcv3LumaS5 (d : BitVec 5) : Statement (.dcv3LumaS5 d) := fieldAfter_length (dcCode true 5) 5 _
theorem dcv3LumaS6 (d : BitVec 6) : Statement (.dcv3LumaS6 d) := fieldAfter_length (dcCode true 6) 6 _
theorem dcv3LumaS7 (d : BitVec 7) : Statement (.dcv3LumaS7 d) := fieldAfter_length (dcCode true 7) 7 _
theorem dcv3LumaS8 (d : BitVec 8) : Statement (.dcv3LumaS8 d) := fieldAfter_length (dcCode true 8) 8 _
theorem dcv3ChromaS0 : Statement .dcv3ChromaS0 := rfl
theorem dcv3ChromaS1 (d : BitVec 1) : Statement (.dcv3ChromaS1 d) := fieldAfter_length (dcCode false 1) 1 _
theorem dcv3ChromaS2 (d : BitVec 2) : Statement (.dcv3ChromaS2 d) := fieldAfter_length (dcCode false 2) 2 _
theorem dcv3ChromaS3 (d : BitVec 3) : Statement (.dcv3ChromaS3 d) := fieldAfter_length (dcCode false 3) 3 _
theorem dcv3ChromaS4 (d : BitVec 4) : Statement (.dcv3ChromaS4 d) := fieldAfter_length (dcCode false 4) 4 _
theorem dcv3ChromaS5 (d : BitVec 5) : Statement (.dcv3ChromaS5 d) := fieldAfter_length (dcCode false 5) 5 _
theorem dcv3ChromaS6 (d : BitVec 6) : Statement (.dcv3ChromaS6 d) := fieldAfter_length (dcCode false 6) 6 _
theorem dcv3ChromaS7 (d : BitVec 7) : Statement (.dcv3ChromaS7 d) := fieldAfter_length (dcCode false 7) 7 _
theorem dcv3ChromaS8 (d : BitVec 8) : Statement (.dcv3ChromaS8 d) := fieldAfter_length (dcCode false 8) 8 _
theorem escStdPayload (run : BitVec 6) (level : BitVec 10) : Statement (.escStdPayload run level) := fieldAfter_length (toBits 6 _) 10 _
theorem escLainPayloadShort (run : BitVec 6) (b : BitVec 8) : Statement (.escLainPayloadShort run b) := fieldAfter_length (toBits 6 _) 8 _
theorem escLainPayloadPos (run : BitVec 6) (x : BitVec 8) : Statement (.escLainPayloadPos run x) := fieldAfter_length (toBits 6 _ ++ toBits 8 0x00) 8 _
theorem escLainPayloadNeg (run : BitVec 6) (x : BitVec 8) : Statement (.escLainPayloadNeg run x) := fieldAfter_length (toBits 6 _ ++ toBits 8 0x80) 8 _
theorem pad10Strv2 : Statement .pad10Strv2 := rfl
theorem pad10Strv3 : Statement .pad10Strv3 := rfl
theorem lzFlag (f : BitVec 8) : Statement (.lzFlag f) := toBits_length 8 _
theorem lzLiteral (c : BitVec 8) : Statement (.lzLiteral c) := toBits_length 8 _
theorem lzBackrefShort (len : BitVec 8) (off : BitVec 7) : Statement (.lzBackrefShort len off) := fieldAfter_length (toBits 8 _ ++ [false]) 7 _
theorem lzBackrefLong (len : BitVec 8) (off : BitVec 15) : Statement (.lzBackrefLong len off) := fieldAfter_length (toBits 8 _ ++ [true]) 15 _

end Laws.Length

end Sys2Proof
end

