-- ==== Sys2Proof/Laws/Reader.lean ====
section
/-! SUPPORT. The bit reader (40_bit_cursor.md R120, R121): what taking bits can do to its registers. -/

namespace Sys2Proof.Machine

/-- The registers of a sound reader over a space (10_state.md R27, R28), for lemmas about taking bits. -/
structure CursorOk (m : Memory) (r : ReaderRegs) : Prop where
  startLe : r.start ≤ r.offset
  offsetLe : r.offset ≤ r.stop
  stopLe : r.stop ≤ m.size
  even : (r.offset - r.start) % 2 = 0
  bitsLeftLe : r.bitsLeft ≤ 16
  loaded : r.bitsLeft ≤ 8 * (r.offset - r.start)

theorem readerOk_iff (s : State) : ReaderOk s ↔ CursorOk s.frame s.rd :=
  ⟨fun ⟨a, b, c, d, e, f⟩ => ⟨a, b, c, d, e, f⟩, fun ⟨a, b, c, d, e, f⟩ => ⟨a, b, c, d, e, f⟩⟩

/-- A fresh reader over a legal span is sound (40_bit_cursor.md R124). -/
theorem readerAt_ok (m : Memory) (start stop : Nat) (pol : Policy) (h1 : start ≤ stop) (h2 : stop ≤ m.size) :
    CursorOk m (readerAt start stop pol) := by
  constructor <;> simp [readerAt, h1, h2]

/-- Everything a load can do (40_bit_cursor.md R120). -/
theorem loadWord_some (m : Memory) (r r' : ReaderRegs) (h : loadWord m r = some r') :
    r.offset + 2 ≤ r.stop ∧ ∃ w, r' = { r with word := w, offset := r.offset + 2, bitsLeft := 16 } := by
  unfold loadWord at h
  split at h
  · cases h
  · next hlt =>
    split at h
    · cases h; exact ⟨by omega, _, rfl⟩
    · cases h

/-- A load fails only where fewer than two bytes are left before BR_END or inside FRAME. -/
theorem loadWord_none (m : Memory) (r : ReaderRegs) (h : loadWord m r = none) :
    r.stop < r.offset + 2 ∨ m.size < r.offset + 2 := by
  unfold loadWord at h
  split at h
  · exact .inl ‹_›
  · right
    by_contra hc
    have h0 : m.read r.offset = some (Memory.lookup m.cells r.offset) := by simp [Memory.read]; omega
    have h1 : m.read (r.offset + 1) = some (Memory.lookup m.cells (r.offset + 1)) := by simp [Memory.read]; omega
    simp [h0, h1] at h

/-- Everything taking one bit can do (40_bit_cursor.md R121): the next bit of the word, loaded if none was left. -/
theorem takeBit_some (m : Memory) (r r' : ReaderRegs) (b : Bool) (h : takeBit m r = some (b, r')) :
    (0 < r.bitsLeft ∧ b = r.word.getLsbD (r.bitsLeft - 1) ∧ r' = { r with bitsLeft := r.bitsLeft - 1 }) ∨
    (r.bitsLeft = 0 ∧ r.offset + 2 ≤ r.stop ∧
      ∃ w, loadWord m r = some { r with word := w, offset := r.offset + 2, bitsLeft := 16 } ∧
        b = w.getLsbD 15 ∧ r' = { r with word := w, offset := r.offset + 2, bitsLeft := 15 }) := by
  unfold takeBit at h
  by_cases h0 : r.bitsLeft = 0
  · rw [if_pos h0] at h
    cases hl : loadWord m r with
    | none => rw [hl] at h; cases h
    | some r1 =>
      obtain ⟨hle, w, rfl⟩ := loadWord_some m r r1 hl
      rw [hl] at h
      cases h
      exact .inr ⟨h0, hle, w, rfl, rfl, rfl⟩
  · rw [if_neg h0] at h
    cases h
    exact .inl ⟨by omega, rfl, rfl⟩

/-- Taking a bit of a sound reader leaves it sound and one bit further (10_state.md R28). -/
theorem takeBit_ok (m : Memory) (r r' : ReaderRegs) (b : Bool) (hr : CursorOk m r) (h : takeBit m r = some (b, r')) :
    CursorOk m r' ∧ bitsRead r' = bitsRead r + 1 := by
  obtain ⟨h1, h2, h3, h4, h5, h6⟩ := hr
  rcases takeBit_some m r r' b h with ⟨h0, -, rfl⟩ | ⟨h0, hle, w, -, -, rfl⟩
  · refine ⟨⟨h1, h2, h3, h4, ?_, ?_⟩, ?_⟩ <;> simp only [bitsRead] <;> omega
  · refine ⟨⟨?_, ?_, h3, ?_, ?_, ?_⟩, ?_⟩ <;> simp only [bitsRead] <;> omega

/-- Taking a bit leaves the stream's bounds, its policy and its flag alone. -/
theorem takeBit_keeps (m : Memory) (r r' : ReaderRegs) (b : Bool) (h : takeBit m r = some (b, r')) :
    r'.start = r.start ∧ r'.stop = r.stop ∧ r'.policy = r.policy ∧ r'.eos = r.eos := by
  rcases takeBit_some m r r' b h with ⟨-, -, rfl⟩ | ⟨-, -, w, -, -, rfl⟩ <;> exact ⟨rfl, rfl, rfl, rfl⟩

/-- What the loop of `TakeBits` can do: it keeps a sound reader sound, takes at most the bits asked for, moves the
cursor by the bits it took, and leaves bounds, policy and flag alone. -/
theorem takeLoop_spec (m : Memory) (n v k : Nat) (r : ReaderRegs) (hr : CursorOk m r) :
    CursorOk m (takeLoop m n v k r).regs ∧ k ≤ (takeLoop m n v k r).got ∧ (takeLoop m n v k r).got ≤ k + n ∧
      bitsRead (takeLoop m n v k r).regs + k = bitsRead r + (takeLoop m n v k r).got := by
  induction n generalizing v k r with
  | zero => exact ⟨hr, le_rfl, le_rfl, rfl⟩
  | succ n ih =>
    unfold takeLoop
    cases hb : takeBit m r with
    | none => exact ⟨hr, le_rfl, by simp, rfl⟩
    | some p =>
      obtain ⟨b, r'⟩ := p
      obtain ⟨hr', hpos⟩ := takeBit_ok m r r' b hr hb
      obtain ⟨i1, i2, i3, i4⟩ := ih (2 * v + b.toNat) (k + 1) r' hr'
      exact ⟨i1, by simp only; omega, by simp only; omega, by simp only; omega⟩

theorem takeLoop_keeps (m : Memory) (n v k : Nat) (r : ReaderRegs) :
    (takeLoop m n v k r).regs.start = r.start ∧ (takeLoop m n v k r).regs.stop = r.stop ∧
      (takeLoop m n v k r).regs.policy = r.policy ∧ (takeLoop m n v k r).regs.eos = r.eos := by
  induction n generalizing v k r with
  | zero => exact ⟨rfl, rfl, rfl, rfl⟩
  | succ n ih =>
    unfold takeLoop
    cases hb : takeBit m r with
    | none => exact ⟨rfl, rfl, rfl, rfl⟩
    | some p =>
      obtain ⟨h1, h2, h3, h4⟩ := takeBit_keeps m r p.2 p.1 hb
      obtain ⟨i1, i2, i3, i4⟩ := ih (2 * v + p.1.toNat) (k + 1) p.2
      exact ⟨i1.trans h1, i2.trans h2, i3.trans h3, i4.trans h4⟩

/-- A read or skip keeps a sound reader sound. -/
theorem readBits_ok (m : Memory) (r : ReaderRegs) (n : Nat) (hr : CursorOk m r) :
    CursorOk m (readBits m r n).regs := by
  obtain ⟨a, b, c, d, e, f⟩ := (takeLoop_spec m n 0 0 r hr).1
  exact ⟨a, b, c, d, e, f⟩

/-- A read or skip leaves the stream's bounds and policy alone. -/
theorem readBits_keeps (m : Memory) (r : ReaderRegs) (n : Nat) :
    (readBits m r n).regs.start = r.start ∧ (readBits m r n).regs.stop = r.stop ∧
      (readBits m r n).regs.policy = r.policy :=
  let h := takeLoop_keeps m n 0 0 r
  ⟨h.1, h.2.1, h.2.2.1⟩

/-- The value taken fits the width. -/
theorem takeLoop_value_lt (m : Memory) (n v k : Nat) (r : ReaderRegs) :
    (takeLoop m n v k r).value < (v + 1) * 2 ^ n := by
  induction n generalizing v k r with
  | zero => simp [takeLoop]
  | succ n ih =>
    unfold takeLoop
    have hpos := Nat.two_pow_pos n
    cases hb : takeBit m r with
    | none => simp only [pow_succ]; nlinarith
    | some p =>
      have h := ih (2 * v + p.1.toNat) (k + 1) p.2
      have hb' : p.1.toNat ≤ 1 := Bool.toNat_le p.1
      simp only [pow_succ]
      nlinarith

theorem takeBits_value_lt (m : Memory) (r : ReaderRegs) (n : Nat) : (takeBits m r n).value < 2 ^ n := by
  simpa [takeBits] using takeLoop_value_lt m n 0 0 r

end Sys2Proof.Machine
end

