-- ==== Sys2Proof/Laws/State.lean ====
section
/-! SUPPORT. What each update of the state leaves of each unit: one lemma per field per update. -/

namespace Sys2Proof.Machine

variable (s : State)

/-! ### `State.withCfg` -/

@[simp] theorem State.withCfg_cfg (x : CfgRegs) : (s.withCfg x).cfg = x := rfl
@[simp] theorem State.withCfg_frame (x : CfgRegs) : (s.withCfg x).frame = s.frame := rfl
@[simp] theorem State.withCfg_ikiTable (x : CfgRegs) : (s.withCfg x).ikiTable = s.ikiTable := rfl
@[simp] theorem State.withCfg_out (x : CfgRegs) : (s.withCfg x).out = s.out := rfl
@[simp] theorem State.withCfg_rd (x : CfgRegs) : (s.withCfg x).rd = s.rd := rfl
@[simp] theorem State.withCfg_wr (x : CfgRegs) : (s.withCfg x).wr = s.wr := rfl
@[simp] theorem State.withCfg_dec (x : CfgRegs) : (s.withCfg x).dec = s.dec := rfl
@[simp] theorem State.withCfg_enc (x : CfgRegs) : (s.withCfg x).enc = s.enc := rfl
@[simp] theorem State.withCfg_srch (x : CfgRegs) : (s.withCfg x).srch = s.srch := rfl
@[simp] theorem State.withCfg_lz (x : CfgRegs) : (s.withCfg x).lz = s.lz := rfl
@[simp] theorem State.withCfg_err (x : CfgRegs) : (s.withCfg x).err = s.err := rfl
@[simp] theorem State.withCfg_host (x : CfgRegs) : (s.withCfg x).host = s.host := rfl

/-! ### `State.withFrame` -/

@[simp] theorem State.withFrame_cfg (x : Memory) : (s.withFrame x).cfg = s.cfg := rfl
@[simp] theorem State.withFrame_frame (x : Memory) : (s.withFrame x).frame = x := rfl
@[simp] theorem State.withFrame_ikiTable (x : Memory) : (s.withFrame x).ikiTable = s.ikiTable := rfl
@[simp] theorem State.withFrame_out (x : Memory) : (s.withFrame x).out = s.out := rfl
@[simp] theorem State.withFrame_rd (x : Memory) : (s.withFrame x).rd = s.rd := rfl
@[simp] theorem State.withFrame_wr (x : Memory) : (s.withFrame x).wr = s.wr := rfl
@[simp] theorem State.withFrame_dec (x : Memory) : (s.withFrame x).dec = s.dec := rfl
@[simp] theorem State.withFrame_enc (x : Memory) : (s.withFrame x).enc = s.enc := rfl
@[simp] theorem State.withFrame_srch (x : Memory) : (s.withFrame x).srch = s.srch := rfl
@[simp] theorem State.withFrame_lz (x : Memory) : (s.withFrame x).lz = s.lz := rfl
@[simp] theorem State.withFrame_err (x : Memory) : (s.withFrame x).err = s.err := rfl
@[simp] theorem State.withFrame_host (x : Memory) : (s.withFrame x).host = s.host := rfl

/-! ### `State.withIkiTable` -/

@[simp] theorem State.withIkiTable_cfg (x : Memory) : (s.withIkiTable x).cfg = s.cfg := rfl
@[simp] theorem State.withIkiTable_frame (x : Memory) : (s.withIkiTable x).frame = s.frame := rfl
@[simp] theorem State.withIkiTable_ikiTable (x : Memory) : (s.withIkiTable x).ikiTable = x := rfl
@[simp] theorem State.withIkiTable_out (x : Memory) : (s.withIkiTable x).out = s.out := rfl
@[simp] theorem State.withIkiTable_rd (x : Memory) : (s.withIkiTable x).rd = s.rd := rfl
@[simp] theorem State.withIkiTable_wr (x : Memory) : (s.withIkiTable x).wr = s.wr := rfl
@[simp] theorem State.withIkiTable_dec (x : Memory) : (s.withIkiTable x).dec = s.dec := rfl
@[simp] theorem State.withIkiTable_enc (x : Memory) : (s.withIkiTable x).enc = s.enc := rfl
@[simp] theorem State.withIkiTable_srch (x : Memory) : (s.withIkiTable x).srch = s.srch := rfl
@[simp] theorem State.withIkiTable_lz (x : Memory) : (s.withIkiTable x).lz = s.lz := rfl
@[simp] theorem State.withIkiTable_err (x : Memory) : (s.withIkiTable x).err = s.err := rfl
@[simp] theorem State.withIkiTable_host (x : Memory) : (s.withIkiTable x).host = s.host := rfl

/-! ### `State.withOut` -/

@[simp] theorem State.withOut_cfg (x : Memory) : (s.withOut x).cfg = s.cfg := rfl
@[simp] theorem State.withOut_frame (x : Memory) : (s.withOut x).frame = s.frame := rfl
@[simp] theorem State.withOut_ikiTable (x : Memory) : (s.withOut x).ikiTable = s.ikiTable := rfl
@[simp] theorem State.withOut_out (x : Memory) : (s.withOut x).out = x := rfl
@[simp] theorem State.withOut_rd (x : Memory) : (s.withOut x).rd = s.rd := rfl
@[simp] theorem State.withOut_wr (x : Memory) : (s.withOut x).wr = s.wr := rfl
@[simp] theorem State.withOut_dec (x : Memory) : (s.withOut x).dec = s.dec := rfl
@[simp] theorem State.withOut_enc (x : Memory) : (s.withOut x).enc = s.enc := rfl
@[simp] theorem State.withOut_srch (x : Memory) : (s.withOut x).srch = s.srch := rfl
@[simp] theorem State.withOut_lz (x : Memory) : (s.withOut x).lz = s.lz := rfl
@[simp] theorem State.withOut_err (x : Memory) : (s.withOut x).err = s.err := rfl
@[simp] theorem State.withOut_host (x : Memory) : (s.withOut x).host = s.host := rfl

/-! ### `State.withRd` -/

@[simp] theorem State.withRd_cfg (x : ReaderRegs) : (s.withRd x).cfg = s.cfg := rfl
@[simp] theorem State.withRd_frame (x : ReaderRegs) : (s.withRd x).frame = s.frame := rfl
@[simp] theorem State.withRd_ikiTable (x : ReaderRegs) : (s.withRd x).ikiTable = s.ikiTable := rfl
@[simp] theorem State.withRd_out (x : ReaderRegs) : (s.withRd x).out = s.out := rfl
@[simp] theorem State.withRd_rd (x : ReaderRegs) : (s.withRd x).rd = x := rfl
@[simp] theorem State.withRd_wr (x : ReaderRegs) : (s.withRd x).wr = s.wr := rfl
@[simp] theorem State.withRd_dec (x : ReaderRegs) : (s.withRd x).dec = s.dec := rfl
@[simp] theorem State.withRd_enc (x : ReaderRegs) : (s.withRd x).enc = s.enc := rfl
@[simp] theorem State.withRd_srch (x : ReaderRegs) : (s.withRd x).srch = s.srch := rfl
@[simp] theorem State.withRd_lz (x : ReaderRegs) : (s.withRd x).lz = s.lz := rfl
@[simp] theorem State.withRd_err (x : ReaderRegs) : (s.withRd x).err = s.err := rfl
@[simp] theorem State.withRd_host (x : ReaderRegs) : (s.withRd x).host = s.host := rfl

/-! ### `State.withWr` -/

@[simp] theorem State.withWr_cfg (x : WriterRegs) : (s.withWr x).cfg = s.cfg := rfl
@[simp] theorem State.withWr_frame (x : WriterRegs) : (s.withWr x).frame = s.frame := rfl
@[simp] theorem State.withWr_ikiTable (x : WriterRegs) : (s.withWr x).ikiTable = s.ikiTable := rfl
@[simp] theorem State.withWr_out (x : WriterRegs) : (s.withWr x).out = s.out := rfl
@[simp] theorem State.withWr_rd (x : WriterRegs) : (s.withWr x).rd = s.rd := rfl
@[simp] theorem State.withWr_wr (x : WriterRegs) : (s.withWr x).wr = x := rfl
@[simp] theorem State.withWr_dec (x : WriterRegs) : (s.withWr x).dec = s.dec := rfl
@[simp] theorem State.withWr_enc (x : WriterRegs) : (s.withWr x).enc = s.enc := rfl
@[simp] theorem State.withWr_srch (x : WriterRegs) : (s.withWr x).srch = s.srch := rfl
@[simp] theorem State.withWr_lz (x : WriterRegs) : (s.withWr x).lz = s.lz := rfl
@[simp] theorem State.withWr_err (x : WriterRegs) : (s.withWr x).err = s.err := rfl
@[simp] theorem State.withWr_host (x : WriterRegs) : (s.withWr x).host = s.host := rfl

/-! ### `State.withDec` -/

@[simp] theorem State.withDec_cfg (x : DecRegs) : (s.withDec x).cfg = s.cfg := rfl
@[simp] theorem State.withDec_frame (x : DecRegs) : (s.withDec x).frame = s.frame := rfl
@[simp] theorem State.withDec_ikiTable (x : DecRegs) : (s.withDec x).ikiTable = s.ikiTable := rfl
@[simp] theorem State.withDec_out (x : DecRegs) : (s.withDec x).out = s.out := rfl
@[simp] theorem State.withDec_rd (x : DecRegs) : (s.withDec x).rd = s.rd := rfl
@[simp] theorem State.withDec_wr (x : DecRegs) : (s.withDec x).wr = s.wr := rfl
@[simp] theorem State.withDec_dec (x : DecRegs) : (s.withDec x).dec = x := rfl
@[simp] theorem State.withDec_enc (x : DecRegs) : (s.withDec x).enc = s.enc := rfl
@[simp] theorem State.withDec_srch (x : DecRegs) : (s.withDec x).srch = s.srch := rfl
@[simp] theorem State.withDec_lz (x : DecRegs) : (s.withDec x).lz = s.lz := rfl
@[simp] theorem State.withDec_err (x : DecRegs) : (s.withDec x).err = s.err := rfl
@[simp] theorem State.withDec_host (x : DecRegs) : (s.withDec x).host = s.host := rfl

/-! ### `State.withEnc` -/

@[simp] theorem State.withEnc_cfg (x : EncRegs) : (s.withEnc x).cfg = s.cfg := rfl
@[simp] theorem State.withEnc_frame (x : EncRegs) : (s.withEnc x).frame = s.frame := rfl
@[simp] theorem State.withEnc_ikiTable (x : EncRegs) : (s.withEnc x).ikiTable = s.ikiTable := rfl
@[simp] theorem State.withEnc_out (x : EncRegs) : (s.withEnc x).out = s.out := rfl
@[simp] theorem State.withEnc_rd (x : EncRegs) : (s.withEnc x).rd = s.rd := rfl
@[simp] theorem State.withEnc_wr (x : EncRegs) : (s.withEnc x).wr = s.wr := rfl
@[simp] theorem State.withEnc_dec (x : EncRegs) : (s.withEnc x).dec = s.dec := rfl
@[simp] theorem State.withEnc_enc (x : EncRegs) : (s.withEnc x).enc = x := rfl
@[simp] theorem State.withEnc_srch (x : EncRegs) : (s.withEnc x).srch = s.srch := rfl
@[simp] theorem State.withEnc_lz (x : EncRegs) : (s.withEnc x).lz = s.lz := rfl
@[simp] theorem State.withEnc_err (x : EncRegs) : (s.withEnc x).err = s.err := rfl
@[simp] theorem State.withEnc_host (x : EncRegs) : (s.withEnc x).host = s.host := rfl

/-! ### `State.withSrch` -/

@[simp] theorem State.withSrch_cfg (x : SrchRegs) : (s.withSrch x).cfg = s.cfg := rfl
@[simp] theorem State.withSrch_frame (x : SrchRegs) : (s.withSrch x).frame = s.frame := rfl
@[simp] theorem State.withSrch_ikiTable (x : SrchRegs) : (s.withSrch x).ikiTable = s.ikiTable := rfl
@[simp] theorem State.withSrch_out (x : SrchRegs) : (s.withSrch x).out = s.out := rfl
@[simp] theorem State.withSrch_rd (x : SrchRegs) : (s.withSrch x).rd = s.rd := rfl
@[simp] theorem State.withSrch_wr (x : SrchRegs) : (s.withSrch x).wr = s.wr := rfl
@[simp] theorem State.withSrch_dec (x : SrchRegs) : (s.withSrch x).dec = s.dec := rfl
@[simp] theorem State.withSrch_enc (x : SrchRegs) : (s.withSrch x).enc = s.enc := rfl
@[simp] theorem State.withSrch_srch (x : SrchRegs) : (s.withSrch x).srch = x := rfl
@[simp] theorem State.withSrch_lz (x : SrchRegs) : (s.withSrch x).lz = s.lz := rfl
@[simp] theorem State.withSrch_err (x : SrchRegs) : (s.withSrch x).err = s.err := rfl
@[simp] theorem State.withSrch_host (x : SrchRegs) : (s.withSrch x).host = s.host := rfl

/-! ### `State.withLz` -/

@[simp] theorem State.withLz_cfg (x : LzRegs) : (s.withLz x).cfg = s.cfg := rfl
@[simp] theorem State.withLz_frame (x : LzRegs) : (s.withLz x).frame = s.frame := rfl
@[simp] theorem State.withLz_ikiTable (x : LzRegs) : (s.withLz x).ikiTable = s.ikiTable := rfl
@[simp] theorem State.withLz_out (x : LzRegs) : (s.withLz x).out = s.out := rfl
@[simp] theorem State.withLz_rd (x : LzRegs) : (s.withLz x).rd = s.rd := rfl
@[simp] theorem State.withLz_wr (x : LzRegs) : (s.withLz x).wr = s.wr := rfl
@[simp] theorem State.withLz_dec (x : LzRegs) : (s.withLz x).dec = s.dec := rfl
@[simp] theorem State.withLz_enc (x : LzRegs) : (s.withLz x).enc = s.enc := rfl
@[simp] theorem State.withLz_srch (x : LzRegs) : (s.withLz x).srch = s.srch := rfl
@[simp] theorem State.withLz_lz (x : LzRegs) : (s.withLz x).lz = x := rfl
@[simp] theorem State.withLz_err (x : LzRegs) : (s.withLz x).err = s.err := rfl
@[simp] theorem State.withLz_host (x : LzRegs) : (s.withLz x).host = s.host := rfl

/-! ### `State.withErr` -/

@[simp] theorem State.withErr_cfg (x : ErrRegs) : (s.withErr x).cfg = s.cfg := rfl
@[simp] theorem State.withErr_frame (x : ErrRegs) : (s.withErr x).frame = s.frame := rfl
@[simp] theorem State.withErr_ikiTable (x : ErrRegs) : (s.withErr x).ikiTable = s.ikiTable := rfl
@[simp] theorem State.withErr_out (x : ErrRegs) : (s.withErr x).out = s.out := rfl
@[simp] theorem State.withErr_rd (x : ErrRegs) : (s.withErr x).rd = s.rd := rfl
@[simp] theorem State.withErr_wr (x : ErrRegs) : (s.withErr x).wr = s.wr := rfl
@[simp] theorem State.withErr_dec (x : ErrRegs) : (s.withErr x).dec = s.dec := rfl
@[simp] theorem State.withErr_enc (x : ErrRegs) : (s.withErr x).enc = s.enc := rfl
@[simp] theorem State.withErr_srch (x : ErrRegs) : (s.withErr x).srch = s.srch := rfl
@[simp] theorem State.withErr_lz (x : ErrRegs) : (s.withErr x).lz = s.lz := rfl
@[simp] theorem State.withErr_err (x : ErrRegs) : (s.withErr x).err = x := rfl
@[simp] theorem State.withErr_host (x : ErrRegs) : (s.withErr x).host = s.host := rfl

/-! ### `State.withHost` -/

@[simp] theorem State.withHost_cfg (x : HostPort) : (s.withHost x).cfg = s.cfg := rfl
@[simp] theorem State.withHost_frame (x : HostPort) : (s.withHost x).frame = s.frame := rfl
@[simp] theorem State.withHost_ikiTable (x : HostPort) : (s.withHost x).ikiTable = s.ikiTable := rfl
@[simp] theorem State.withHost_out (x : HostPort) : (s.withHost x).out = s.out := rfl
@[simp] theorem State.withHost_rd (x : HostPort) : (s.withHost x).rd = s.rd := rfl
@[simp] theorem State.withHost_wr (x : HostPort) : (s.withHost x).wr = s.wr := rfl
@[simp] theorem State.withHost_dec (x : HostPort) : (s.withHost x).dec = s.dec := rfl
@[simp] theorem State.withHost_enc (x : HostPort) : (s.withHost x).enc = s.enc := rfl
@[simp] theorem State.withHost_srch (x : HostPort) : (s.withHost x).srch = s.srch := rfl
@[simp] theorem State.withHost_lz (x : HostPort) : (s.withHost x).lz = s.lz := rfl
@[simp] theorem State.withHost_err (x : HostPort) : (s.withHost x).err = s.err := rfl
@[simp] theorem State.withHost_host (x : HostPort) : (s.withHost x).host = x := rfl

/-! ### `State.clearErr` -/

@[simp] theorem State.clearErr_cfg : (s.clearErr).cfg = s.cfg := rfl
@[simp] theorem State.clearErr_frame : (s.clearErr).frame = s.frame := rfl
@[simp] theorem State.clearErr_ikiTable : (s.clearErr).ikiTable = s.ikiTable := rfl
@[simp] theorem State.clearErr_out : (s.clearErr).out = s.out := rfl
@[simp] theorem State.clearErr_rd : (s.clearErr).rd = s.rd := rfl
@[simp] theorem State.clearErr_wr : (s.clearErr).wr = s.wr := rfl
@[simp] theorem State.clearErr_dec : (s.clearErr).dec = s.dec := rfl
@[simp] theorem State.clearErr_enc : (s.clearErr).enc = s.enc := rfl
@[simp] theorem State.clearErr_srch : (s.clearErr).srch = s.srch := rfl
@[simp] theorem State.clearErr_lz : (s.clearErr).lz = s.lz := rfl
@[simp] theorem State.clearErr_err : (s.clearErr).err = { s.err with code := 0, info := 0 } := rfl
@[simp] theorem State.clearErr_host : (s.clearErr).host = s.host := rfl

/-! ### `State.finish` -/

@[simp] theorem State.finish_cfg (r : Reply) : (s.finish r).cfg = s.cfg := rfl
@[simp] theorem State.finish_frame (r : Reply) : (s.finish r).frame = s.frame := rfl
@[simp] theorem State.finish_ikiTable (r : Reply) : (s.finish r).ikiTable = s.ikiTable := rfl
@[simp] theorem State.finish_out (r : Reply) : (s.finish r).out = s.out := rfl
@[simp] theorem State.finish_rd (r : Reply) : (s.finish r).rd = s.rd := rfl
@[simp] theorem State.finish_wr (r : Reply) : (s.finish r).wr = s.wr := rfl
@[simp] theorem State.finish_dec (r : Reply) : (s.finish r).dec = s.dec := rfl
@[simp] theorem State.finish_enc (r : Reply) : (s.finish r).enc = s.enc := rfl
@[simp] theorem State.finish_srch (r : Reply) : (s.finish r).srch = s.srch := rfl
@[simp] theorem State.finish_lz (r : Reply) : (s.finish r).lz = s.lz := rfl
@[simp] theorem State.finish_err (r : Reply) : (s.finish r).err = s.err := rfl
@[simp] theorem State.finish_host (r : Reply) : (s.finish r).host = { s.host with reply := r, codeOut := none } := rfl

/-! ### `State.emit` -/

@[simp] theorem State.emit_cfg (c : MdecCode) : (s.emit c).cfg = s.cfg := rfl
@[simp] theorem State.emit_frame (c : MdecCode) : (s.emit c).frame = s.frame := rfl
@[simp] theorem State.emit_ikiTable (c : MdecCode) : (s.emit c).ikiTable = s.ikiTable := rfl
@[simp] theorem State.emit_out (c : MdecCode) : (s.emit c).out = s.out := rfl
@[simp] theorem State.emit_rd (c : MdecCode) : (s.emit c).rd = s.rd := rfl
@[simp] theorem State.emit_wr (c : MdecCode) : (s.emit c).wr = s.wr := rfl
@[simp] theorem State.emit_dec (c : MdecCode) : (s.emit c).dec = { s.dec with ctxCodes := s.dec.ctxCodes + 1 } := rfl
@[simp] theorem State.emit_enc (c : MdecCode) : (s.emit c).enc = s.enc := rfl
@[simp] theorem State.emit_srch (c : MdecCode) : (s.emit c).srch = s.srch := rfl
@[simp] theorem State.emit_lz (c : MdecCode) : (s.emit c).lz = s.lz := rfl
@[simp] theorem State.emit_err (c : MdecCode) : (s.emit c).err = s.err := rfl
@[simp] theorem State.emit_host (c : MdecCode) : (s.emit c).host = { s.host with reply := .mdec c, codeOut := some (.code c) } := rfl

/-! ### `State.endOfFrame` -/

@[simp] theorem State.endOfFrame_cfg : (s.endOfFrame).cfg = s.cfg := rfl
@[simp] theorem State.endOfFrame_frame : (s.endOfFrame).frame = s.frame := rfl
@[simp] theorem State.endOfFrame_ikiTable : (s.endOfFrame).ikiTable = s.ikiTable := rfl
@[simp] theorem State.endOfFrame_out : (s.endOfFrame).out = s.out := rfl
@[simp] theorem State.endOfFrame_rd : (s.endOfFrame).rd = s.rd := rfl
@[simp] theorem State.endOfFrame_wr : (s.endOfFrame).wr = s.wr := rfl
@[simp] theorem State.endOfFrame_dec : (s.endOfFrame).dec = s.dec := rfl
@[simp] theorem State.endOfFrame_enc : (s.endOfFrame).enc = s.enc := rfl
@[simp] theorem State.endOfFrame_srch : (s.endOfFrame).srch = s.srch := rfl
@[simp] theorem State.endOfFrame_lz : (s.endOfFrame).lz = s.lz := rfl
@[simp] theorem State.endOfFrame_err : (s.endOfFrame).err = s.err := rfl
@[simp] theorem State.endOfFrame_host : (s.endOfFrame).host = { s.host with reply := .endMark, codeOut := some .endMark } := rfl

/-! ### `State.diagnose` -/

@[simp] theorem State.diagnose_cfg (k : DiagKind) (v : Int) : (s.diagnose k v).cfg = s.cfg := rfl
@[simp] theorem State.diagnose_frame (k : DiagKind) (v : Int) : (s.diagnose k v).frame = s.frame := rfl
@[simp] theorem State.diagnose_ikiTable (k : DiagKind) (v : Int) : (s.diagnose k v).ikiTable = s.ikiTable := rfl
@[simp] theorem State.diagnose_out (k : DiagKind) (v : Int) : (s.diagnose k v).out = s.out := rfl
@[simp] theorem State.diagnose_rd (k : DiagKind) (v : Int) : (s.diagnose k v).rd = s.rd := rfl
@[simp] theorem State.diagnose_wr (k : DiagKind) (v : Int) : (s.diagnose k v).wr = s.wr := rfl
@[simp] theorem State.diagnose_dec (k : DiagKind) (v : Int) : (s.diagnose k v).dec = s.dec := rfl
@[simp] theorem State.diagnose_enc (k : DiagKind) (v : Int) : (s.diagnose k v).enc = s.enc := rfl
@[simp] theorem State.diagnose_srch (k : DiagKind) (v : Int) : (s.diagnose k v).srch = s.srch := rfl
@[simp] theorem State.diagnose_lz (k : DiagKind) (v : Int) : (s.diagnose k v).lz = s.lz := rfl
@[simp] theorem State.diagnose_err (k : DiagKind) (v : Int) : (s.diagnose k v).err = s.err := rfl
@[simp] theorem State.diagnose_host (k : DiagKind) (v : Int) : (s.diagnose k v).host = { s.host with diag := s.host.diag ++ [⟨k, v⟩] } := rfl

/-! ### `State.raise` -/

@[simp] theorem State.raise_cfg (who : Raiser) (e : Exc) (v : Option Int) : (s.raise who e v).cfg = s.cfg := rfl
@[simp] theorem State.raise_frame (who : Raiser) (e : Exc) (v : Option Int) : (s.raise who e v).frame = s.frame := rfl
@[simp] theorem State.raise_ikiTable (who : Raiser) (e : Exc) (v : Option Int) : (s.raise who e v).ikiTable = s.ikiTable := rfl
@[simp] theorem State.raise_out (who : Raiser) (e : Exc) (v : Option Int) : (s.raise who e v).out = if who = .encoder then Memory.empty else s.out := rfl
@[simp] theorem State.raise_rd (who : Raiser) (e : Exc) (v : Option Int) : (s.raise who e v).rd = s.rd := rfl
@[simp] theorem State.raise_wr (who : Raiser) (e : Exc) (v : Option Int) : (s.raise who e v).wr = s.wr := rfl
@[simp] theorem State.raise_dec (who : Raiser) (e : Exc) (v : Option Int) : (s.raise who e v).dec = faultRecord who e s.dec := rfl
@[simp] theorem State.raise_enc (who : Raiser) (e : Exc) (v : Option Int) : (s.raise who e v).enc = s.enc := rfl
@[simp] theorem State.raise_srch (who : Raiser) (e : Exc) (v : Option Int) : (s.raise who e v).srch = s.srch := rfl
@[simp] theorem State.raise_lz (who : Raiser) (e : Exc) (v : Option Int) : (s.raise who e v).lz = s.lz := rfl
@[simp] theorem State.raise_err (who : Raiser) (e : Exc) (v : Option Int) : (s.raise who e v).err = { s.err with code := e.code, info := e.info } := rfl
@[simp] theorem State.raise_host (who : Raiser) (e : Exc) (v : Option Int) : (s.raise who e v).host = { s.host with diag := s.host.diag ++ [⟨.exception e.code, e.info⟩], reply := .exception e.code e.info v, codeOut := none } := rfl

/-! ### `State.issue` -/

@[simp] theorem State.issue_cfg (w : BitVec 16) : (s.issue w).cfg = s.cfg := rfl
@[simp] theorem State.issue_frame (w : BitVec 16) : (s.issue w).frame = s.frame := rfl
@[simp] theorem State.issue_ikiTable (w : BitVec 16) : (s.issue w).ikiTable = s.ikiTable := rfl
@[simp] theorem State.issue_out (w : BitVec 16) : (s.issue w).out = s.out := rfl
@[simp] theorem State.issue_rd (w : BitVec 16) : (s.issue w).rd = s.rd := rfl
@[simp] theorem State.issue_wr (w : BitVec 16) : (s.issue w).wr = s.wr := rfl
@[simp] theorem State.issue_dec (w : BitVec 16) : (s.issue w).dec = s.dec := rfl
@[simp] theorem State.issue_enc (w : BitVec 16) : (s.issue w).enc = s.enc := rfl
@[simp] theorem State.issue_srch (w : BitVec 16) : (s.issue w).srch = s.srch := rfl
@[simp] theorem State.issue_lz (w : BitVec 16) : (s.issue w).lz = s.lz := rfl
@[simp] theorem State.issue_err (w : BitVec 16) : (s.issue w).err = s.err := rfl
@[simp] theorem State.issue_host (w : BitVec 16) : (s.issue w).host = { s.host with pending := ⟨w, s.host.operands⟩ :: s.host.pending } := rfl

/-! ### `State.withEncSt` -/

@[simp] theorem State.withEncSt_cfg (st : EncSt) : (s.withEncSt st).cfg = s.cfg := rfl
@[simp] theorem State.withEncSt_frame (st : EncSt) : (s.withEncSt st).frame = s.frame := rfl
@[simp] theorem State.withEncSt_ikiTable (st : EncSt) : (s.withEncSt st).ikiTable = s.ikiTable := rfl
@[simp] theorem State.withEncSt_out (st : EncSt) : (s.withEncSt st).out = s.out := rfl
@[simp] theorem State.withEncSt_rd (st : EncSt) : (s.withEncSt st).rd = s.rd := rfl
@[simp] theorem State.withEncSt_wr (st : EncSt) : (s.withEncSt st).wr = st.wr := rfl
@[simp] theorem State.withEncSt_dec (st : EncSt) : (s.withEncSt st).dec = s.dec := rfl
@[simp] theorem State.withEncSt_enc (st : EncSt) : (s.withEncSt st).enc = st.enc := rfl
@[simp] theorem State.withEncSt_srch (st : EncSt) : (s.withEncSt st).srch = s.srch := rfl
@[simp] theorem State.withEncSt_lz (st : EncSt) : (s.withEncSt st).lz = s.lz := rfl
@[simp] theorem State.withEncSt_err (st : EncSt) : (s.withEncSt st).err = s.err := rfl
@[simp] theorem State.withEncSt_host (st : EncSt) : (s.withEncSt st).host = s.host := rfl

/-! ### `resetRegisters` -/

@[simp] theorem resetRegisters_cfg : (resetRegisters s).cfg = CfgRegs.reset := rfl
@[simp] theorem resetRegisters_frame : (resetRegisters s).frame = Memory.empty := rfl
@[simp] theorem resetRegisters_ikiTable : (resetRegisters s).ikiTable = Memory.empty := rfl
@[simp] theorem resetRegisters_out : (resetRegisters s).out = Memory.empty := rfl
@[simp] theorem resetRegisters_rd : (resetRegisters s).rd = ReaderRegs.reset := rfl
@[simp] theorem resetRegisters_wr : (resetRegisters s).wr = WriterRegs.reset := rfl
@[simp] theorem resetRegisters_dec : (resetRegisters s).dec = DecRegs.reset := rfl
@[simp] theorem resetRegisters_enc : (resetRegisters s).enc = EncRegs.reset := rfl
@[simp] theorem resetRegisters_srch : (resetRegisters s).srch = SrchRegs.reset := rfl
@[simp] theorem resetRegisters_lz : (resetRegisters s).lz = LzRegs.reset := rfl
@[simp] theorem resetRegisters_err : (resetRegisters s).err = ErrRegs.reset := rfl
@[simp] theorem resetRegisters_host : (resetRegisters s).host = s.host := rfl

/-! ### `faultRecord` (60_exceptions.md R293) -/

/-- Only a raise of DEC_NEXT touches the decoder. -/
@[simp] theorem faultRecord_other (e : Exc) (d : DecRegs) : faultRecord .other e d = d := by simp [faultRecord]

/-- Only a raise of DEC_NEXT touches the decoder. -/
@[simp] theorem faultRecord_encoder (e : Exc) (d : DecRegs) : faultRecord .encoder e d = d := by simp [faultRecord]

/-- EndOfStream and ReadCorruption of DEC_NEXT fault the decoder. -/
theorem faultRecord_faults (e : Exc) (d : DecRegs) (h : e.faultsDecoder = true) :
    faultRecord .decNext e d = { d with faultCode := e.code, faultInfo := e.info, state := .fault } := by
  simp [faultRecord, h]

/-- No other exception of DEC_NEXT touches the decoder. -/
theorem faultRecord_keeps (e : Exc) (d : DecRegs) (h : e.faultsDecoder = false) : faultRecord .decNext e d = d := by
  simp [faultRecord, h]

/-! ### `State.fetch` and `step` -/

/-- The block waits exactly while the stream is empty. -/
theorem fetch_eq_none_iff : s.fetch = none ↔ s.host.pending = [] := by
  unfold State.fetch
  split <;> simp_all

/-- Fetching takes the head command and puts its operand record on the port; nothing else changes. -/
theorem fetch_cons (c : HostCommand) (rest : List HostCommand) (h : s.host.pending = c :: rest) :
    s.fetch = some (c.word, s.withHost { s.host with pending := rest, operands := c.operands }) := by
  simp [State.fetch, h]

/-- Everything a step can do: wait, reject a word, or run the decoded command. -/
theorem step_cases :
    (s.host.pending = [] ∧ step s = .next s) ∨
    ∃ c rest, s.host.pending = c :: rest ∧
      ((∃ why, decodeCommand c.word = .reject why ∧
          step s = .next ((s.withHost { s.host with pending := rest, operands := c.operands }).rejectCommand why)) ∨
        ∃ i, decodeCommand c.word = .run i ∧
          step s = exec i (s.withHost { s.host with pending := rest, operands := c.operands })) := by
  cases h : s.host.pending with
  | nil => exact .inl ⟨rfl, by simp [step, State.fetch, h]⟩
  | cons c rest =>
    refine .inr ⟨c, rest, rfl, ?_⟩
    cases hd : decodeCommand c.word with
    | run i => exact .inr ⟨i, rfl, by simp [step, fetch_cons s c rest h, hd]⟩
    | reject why => exact .inl ⟨why, rfl, by simp [step, fetch_cons s c rest h, hd]⟩

end Sys2Proof.Machine
end

