-- ==== Sys2Proof/Laws/Units.lean ====
section
/-! SUPPORT. What the shared operations of the decoder, the code table, the layouts and the LZSS unit can do, said once
each. -/

namespace Sys2Proof.Machine

/-! ### Reading inside a step (40_bit_cursor.md R139) -/

/-- A read inside a step faults with EndOfStream when it came short, and otherwise goes on. -/
theorem readThen_cases (n : Nat) (s : State) (k : Nat → State → State) :
    ((readBits s.frame s.rd n).got < n ∧
      readThen n s k =
        decRaise (s.withRd (readBits s.frame s.rd n).regs) (excEndOfStream (readBits s.frame s.rd n).got)) ∨
    (n ≤ (readBits s.frame s.rd n).got ∧
      readThen n s k = k (readBits s.frame s.rd n).value (s.withRd (readBits s.frame s.rd n).regs)) := by
  unfold readThen
  by_cases h : (readBits s.frame s.rd n).got < n
  · exact .inl ⟨h, by simp [h]⟩
  · exact .inr ⟨by omega, by simp [h]⟩

/-- A skip inside a step: as a read. -/
theorem skipThen_cases (n : Nat) (s : State) (k : State → State) :
    ((readBits s.frame s.rd n).got < n ∧
      skipThen n s k =
        decRaise (s.withRd (readBits s.frame s.rd n).regs) (excEndOfStream (readBits s.frame s.rd n).got)) ∨
    (n ≤ (readBits s.frame s.rd n).got ∧ skipThen n s k = k (s.withRd (readBits s.frame s.rd n).regs)) :=
  readThen_cases n s fun _ s' => k s'

/-- The position check (43_decoder.md R201): a code is placed, or the block overflows. -/
theorem placeCode_cases (run : Nat) (level : Int) (s : State) :
    (s.dec.vpos + run + 1 < 64 ∧
      placeCode run level s =
        (s.withDec { s.dec with vpos := s.dec.vpos + run + 1 }).emit (mdec run level)) ∨
    (64 ≤ s.dec.vpos + run + 1 ∧ placeCode run level s = decRaise s (excCorrupt .blockOverflow)) := by
  unfold placeCode
  by_cases h : 64 ≤ s.dec.vpos + run + 1
  · exact .inr ⟨h, by simp [h]⟩
  · exact .inl ⟨by omega, by simp [h]⟩

/-- The range check of an STRv3 block start (43_decoder.md R191). -/
theorem startBlockV3_cases (diff : Int) (s : State) :
    ((-512 ≤ (predictor s.dec).toInt + 4 * diff ∧ (predictor s.dec).toInt + 4 * diff ≤ 511) ∧
      startBlockV3 diff s =
        startBlock (mdec s.cfg.qscale.toNat ((predictor s.dec).toInt + 4 * diff))
          (s.withDec (setPredictor s.dec (BitVec.ofInt 10 ((predictor s.dec).toInt + 4 * diff))))) ∨
    (¬ (-512 ≤ (predictor s.dec).toInt + 4 * diff ∧ (predictor s.dec).toInt + 4 * diff ≤ 511) ∧
      startBlockV3 diff s = decRaise s (excCorrupt .dcOutOfRange)) := by
  unfold startBlockV3
  by_cases h : (predictor s.dec).toInt + 4 * diff < -512 ∨ 511 < (predictor s.dec).toInt + 4 * diff
  · exact .inr ⟨by omega, by simp [h]⟩
  · exact .inl ⟨by omega, by simp [h]⟩

/-- A token's meaning answers a next state exactly where the grammar reads it. -/
theorem tokenAt_next (here : Bool) (s t : State) (k : State → State) :
    tokenAt here s k = .next t ↔ here = true ∧ t = k s := by
  unfold tokenAt
  cases here <;> simp [eq_comm]

/-- Elsewhere it is refused by name. -/
theorem tokenAt_refused (s : State) (k : State → State) : tokenAt false s k = .refused .tokenOutOfPlace := rfl

/-! ### Code tables (41_code_table.md R150, R152, R155) -/

/-- A lookup answers an entry of the table whose bit string opens the window. -/
theorem lookup_some (d : Dialect) (w : Nat) (e : Entry) (h : lookup d w = some e) :
    e ∈ codeTable d ∧ e.bits.isPrefixOf (toBits 17 w) = true :=
  ⟨List.mem_of_find?_eq_some h, by simpa using List.find?_some h⟩

/-- An encode lookup answers an entry of the table that means the pair. -/
theorem encodeLookup_some (d : Dialect) (run : Nat) (level : Int) (e : Entry)
    (h : encodeLookup d run level = some e) : e ∈ codeTable d ∧ e.meaning = .ac run level :=
  ⟨List.mem_of_find?_eq_some h, by simpa using List.find?_some h⟩

/-- Both dialects share the catalog of bit strings (30_encoding.md R90). -/
theorem codeTable_bits (d : Dialect) : (codeTable d).map Entry.bits = catalog.map Entry.bits := by
  cases d <;> simp [codeTable, bindTable, Function.comp_def]

/-- Both dialects share the ordinals. -/
theorem codeTable_ordinals (d : Dialect) : (codeTable d).map Entry.ordinal = catalog.map Entry.ordinal := by
  cases d <;> simp [codeTable, bindTable, Function.comp_def]

/-- The Lain table has an escape and an end-of-block, whatever the parameter (30_encoding.md R90). -/
theorem lain_has (m : CodeMeaning) (hm : m = .esc ∨ m = .eob) : ∃ e ∈ codeTable .lain, e.meaning = m := by
  have hok := Config.lainAcTable.legal
  simp only [assignmentOk, Bool.and_eq_true, List.contains_iff_mem] at hok
  have h : m ∈ (List.range 224).map Config.lainAcTable.meaning := by
    rcases hm with rfl | rfl
    · exact hok.1.2
    · exact hok.2
  obtain ⟨k, hk, rfl⟩ := List.mem_map.1 h
  have hall : (List.range 224).all (fun k => catalog.any fun e => e.ordinal == k) = true := by decide +kernel
  obtain ⟨e, he, hek⟩ := List.any_eq_true.1 (List.all_eq_true.1 hall k hk)
  exact ⟨_, List.mem_map.2 ⟨e, he, rfl⟩, by simp [eq_of_beq hek]⟩

/-! ### Layout parameters (93_implementation_defined.md section 3) -/

/-- The Iki header layout in use is legal, whatever the parameter (log 13). -/
theorem ikiLayout_ok : ikiLayoutOk ikiLayout = true := by
  unfold ikiLayout
  split
  · assumption
  · decide

/-- The Lain header layout in use is legal, whatever the parameter (log 14). -/
theorem lainLayout_ok : lainLayoutOk lainLayout = true := by
  unfold lainLayout
  split
  · assumption
  · decide

/-- The writer alignment in use is legal for a word-swapped format, whatever the parameter (log 11). -/
theorem padAlign_le16 (f : Format) (h : policyOf f = .le16) : padAlign f ≠ .one := by
  cases f <;> simp [policyOf] at h <;> unfold padAlign <;> split <;> simp_all

/-! ### The encoder (44_encoder.md R221, R224, R229) -/

/-- Only Lain's encode of an AC code raises. -/
theorem acBits_std (f : Format) (hf : f ≠ .lain) (run : Nat) (level : Int) : (acBits f run level).2 = none := by
  unfold acBits
  dsimp only
  split
  · rfl
  · rw [if_neg hf]

/-- Outside Lain the AC codes of a block are written one after another, and none raises. -/
theorem encodeAcs_std (cs : List MdecCode) (st : EncSt) (hf : st.enc.format ≠ .lain) :
    encodeAcs cs st =
      (st.put (cs.flatMap fun c => (acBits st.enc.format (mdecTop c) (mdecBottom c)).1), none) := by
  induction cs generalizing st with
  | nil => simp [encodeAcs, EncSt.put, writeBits]
  | cons c cs ih =>
    have hc := acBits_std st.enc.format hf (mdecTop c) (mdecBottom c)
    rw [encodeAcs]
    cases h : acBits st.enc.format (mdecTop c) (mdecBottom c) with
    | mk bits e =>
      rw [h] at hc
      cases hc
      simp only
      rw [ih _ (by simpa [EncSt.put] using hf)]
      simp [EncSt.put, writeBits, h]

/-- The DC of a block leaves the format alone. -/
@[simp] theorem encodeDc_format (mb b : Nat) (code : MdecCode) (st : EncSt) :
    (encodeDc mb b code st).enc.format = st.enc.format := by
  unfold encodeDc
  split <;> simp [EncSt.put, encodeDcV3, encodeDcIki, setPrevRounded]
  split <;> rfl

/-- Outside Lain a block is its DC, its AC codes and its end-of-block code, and raises nothing. -/
theorem encodeBlock_std (mb b : Nat) (blk : List MdecCode) (st : EncSt) (hf : st.enc.format ≠ .lain) :
    encodeBlock mb b blk st =
      (finishBlock blk.length ((encodeDc mb b (blk.headD 0) st).put
        ((acCodes blk).flatMap fun c => (acBits st.enc.format (mdecTop c) (mdecBottom c)).1)), none) := by
  simp [encodeBlock, encodeAcs_std, hf]

/-- What an encode ends in does not depend on the registers it starts from. -/
theorem encodeFrame_result (j : EncJob) (st st' : EncSt) : (encodeFrame j st).2 = (encodeFrame j st').2 := by
  unfold encodeFrame
  split <;> rfl

/-! ### Searches (45_qscale_search.md R245) -/

/-- An attempt that fits is a frame within the budget. -/
theorem judge_fits (budget : Nat) (r : EncResult) (bytes : List Byte) (h : judge budget r = .fits bytes) :
    r = .frame bytes ∧ bytes.length ≤ budget := by
  cases r with
  | frame b =>
    by_cases hb : b.length ≤ budget
    · simp [judge, hb] at h; subst h; exact ⟨rfl, hb⟩
    · simp [judge, hb] at h
  | raised e => by_cases he : e.code = 4#4 <;> simp [judge, he] at h

/-- An attempt ends a search only by an exception that is not TooMuchEnergy. -/
theorem judge_raises (budget : Nat) (r : EncResult) (e : Exc) (h : judge budget r = .raises e) :
    r = .raised e ∧ e.code ≠ 4#4 := by
  cases r with
  | frame b => by_cases hb : b.length ≤ budget <;> simp [judge, hb] at h
  | raised e' =>
    by_cases he : e'.code = 4#4
    · simp [judge, he] at h
    · simp [judge, he] at h; subst h; exact ⟨rfl, he⟩

/-! ### The LZSS unit (46_lzss.md R268) -/

/-- A copy puts the copied length behind the output. -/
theorem copyBack_length (n d : Nat) (dst : List Byte) : (copyBack n d dst).length = dst.length + n := by
  induction n generalizing dst with
  | zero => rfl
  | succ n ih => simp [copyBack, ih]; omega

/-- A copy only adds to the output. -/
theorem copyBack_prefix (n d : Nat) (dst : List Byte) : dst <+: copyBack n d dst := by
  induction n generalizing dst with
  | zero => exact List.prefix_rfl
  | succ n ih => exact (List.prefix_append _ _).trans (ih _)

/-- The checks of a back-reference and its copy. -/
theorem lzPutCopy_cases (dsize len dist : Nat) (w : LzWork) :
    (w.dst.length < dist ∧ lzPutCopy dsize len dist w = (w, some .badDistance)) ∨
    (dist ≤ w.dst.length ∧ dsize < w.dst.length + len ∧ lzPutCopy dsize len dist w = (w, some .overflow)) ∨
    (dist ≤ w.dst.length ∧ w.dst.length + len ≤ dsize ∧
      lzPutCopy dsize len dist w = ({ w with dst := copyBack len dist w.dst }, none)) := by
  unfold lzPutCopy
  by_cases h1 : w.dst.length < dist
  · exact .inl ⟨h1, by simp [h1]⟩
  · by_cases h2 : dsize < w.dst.length + len
    · exact .inr (.inl ⟨by omega, h2, by simp [h1, h2]⟩)
    · exact .inr (.inr ⟨by omega, by omega, by simp [h1, h2]⟩)

end Sys2Proof.Machine
end

