-- ==== Sys2Proof/Tests/Slice0.lean ====
section
/-! SUPPORT. The model's own tests: what the checks refuse, what the decoders read, one step of each instruction on
small states (expected results from spec/95_test_vectors.md and spec/30_encoding.md), and a witness for the hypotheses
of every statement that has some. -/

namespace Sys2Proof.Tests

-- One theorem at a time: the evaluations below are too many to run side by side.
set_option Elab.async false

open Sys2Proof Sys2Proof.Machine

/-! ### Small states -/

/-- The state a step ends in. -/
def nextOf : Result → Option State
  | .next t => some t
  | .fault _ => none
  | .refused _ => none

/-- What a step reports. -/
def replyOf (r : Result) : Option Reply := (nextOf r).map fun t => t.host.reply

/-- A step that ends in a state with the property P. -/
def endsIn (P : State → Bool) : Result → Bool
  | .next t => P t
  | .fault _ => false
  | .refused _ => false

/-- The power-on state with an operand record on the port. -/
def withOps (o : Operands) : State := State.reset.withHost { HostPort.reset with operands := o }

/-- A fresh reader over bytes, no decode active. -/
def reading (pol : Policy) (bytes : List Byte) : State :=
  { State.reset with frame := Memory.ofBytes bytes, rd := readerAt 0 bytes.length pol }

/-- A decode of a format at scale 10 that stands before the given bits, `done` blocks behind it. -/
def decoding (f : Format) (mbs : Nat) (st : DecState) (done : Nat) (bits : Bits) : State :=
  let buf := finalBytes bits (policyOf f) .two
  let s := startFrame f
    { format := f.code, buffer := buf, stop := buf.length, mbCount := mbs, qscale := 10, qscaleLuma := 20,
      qscaleChroma := 30, ikiTable := List.replicate (12 * mbs) 0#8 } State.reset
  s.withDec { s.dec with state := st, ctxBlock := done % 6, ctxMb := done / 6, ctxBlocks := done, ctxCodes := 2 * done }

/-! ### Decoding, and the code-table strings as instructions

Every bit string, word and expected code is written out from 30_encoding.md R87 to R104 and 10_state.md R21. -/

/-- One string of the catalog: its length, its bits, its instruction, and the code a DEC_NEXT gives for it right after
the block start, in the standard dialect. -/
abbrev CodeRow := Nat × Nat × Instr × MdecCode

/-- Every row's string reads as the row's instruction, and leaves the bit after it. -/
def rowsDecode (rows : List CodeRow) : Bool :=
  rows.all fun r =>
    decodeAt .code (toBits r.1 r.2.1 ++ [true]) == .ok r.2.2.1 [true]

/-- Every row's instruction, run on its own string in an STRv1 block, emits the row's code. -/
def rowsRun (rows : List CodeRow) : Bool :=
  rows.all fun r =>
    replyOf (exec r.2.2.1 (decoding .strv1 1 .midBlock 0 (toBits r.1 r.2.1))) == some (.mdec r.2.2.2)

/-- 30_encoding.md R87: ordinals 0 to 27. -/
def codeRows0 : List CodeRow :=
  [(3, 0b110, .ac_0_p1, 0x0001), (3, 0b111, .ac_0_n1, 0x03FF), (4, 0b0110, .ac_1_p1, 0x0401),
   (4, 0b0111, .ac_1_n1, 0x07FF), (5, 0b01000, .ac_0_p2, 0x0002), (5, 0b01001, .ac_0_n2, 0x03FE),
   (5, 0b01010, .ac_2_p1, 0x0801), (5, 0b01011, .ac_2_n1, 0x0BFF), (6, 0b001010, .ac_0_p3, 0x0003),
   (6, 0b001011, .ac_0_n3, 0x03FD), (6, 0b001110, .ac_3_p1, 0x0C01), (6, 0b001111, .ac_3_n1, 0x0FFF),
   (6, 0b001100, .ac_4_p1, 0x1001), (6, 0b001101, .ac_4_n1, 0x13FF), (7, 0b0001100, .ac_1_p2, 0x0402),
   (7, 0b0001101, .ac_1_n2, 0x07FE), (7, 0b0001110, .ac_5_p1, 0x1401), (7, 0b0001111, .ac_5_n1, 0x17FF),
   (7, 0b0001010, .ac_6_p1, 0x1801), (7, 0b0001011, .ac_6_n1, 0x1BFF), (7, 0b0001000, .ac_7_p1, 0x1C01),
   (7, 0b0001001, .ac_7_n1, 0x1FFF), (8, 0b00001100, .ac_0_p4, 0x0004), (8, 0b00001101, .ac_0_n4, 0x03FC),
   (8, 0b00001000, .ac_2_p2, 0x0802), (8, 0b00001001, .ac_2_n2, 0x0BFE), (8, 0b00001110, .ac_8_p1, 0x2001),
   (8, 0b00001111, .ac_8_n1, 0x23FF)]

theorem test_codes_0 : rowsDecode codeRows0 = true ∧ rowsRun codeRows0 = true := by decide +kernel

/-- 30_encoding.md R87: ordinals 28 to 55. -/
def codeRows1 : List CodeRow :=
  [(8, 0b00001010, .ac_9_p1, 0x2401), (8, 0b00001011, .ac_9_n1, 0x27FF), (9, 0b001001100, .ac_0_p5, 0x0005),
   (9, 0b001001101, .ac_0_n5, 0x03FB), (9, 0b001000010, .ac_0_p6, 0x0006), (9, 0b001000011, .ac_0_n6, 0x03FA),
   (9, 0b001001010, .ac_1_p3, 0x0403), (9, 0b001001011, .ac_1_n3, 0x07FD), (9, 0b001001000, .ac_3_p2, 0x0C02),
   (9, 0b001001001, .ac_3_n2, 0x0FFE), (9, 0b001001110, .ac_10_p1, 0x2801), (9, 0b001001111, .ac_10_n1, 0x2BFF),
   (9, 0b001000110, .ac_11_p1, 0x2C01), (9, 0b001000111, .ac_11_n1, 0x2FFF), (9, 0b001000100, .ac_12_p1, 0x3001),
   (9, 0b001000101, .ac_12_n1, 0x33FF), (9, 0b001000000, .ac_13_p1, 0x3401), (9, 0b001000001, .ac_13_n1, 0x37FF),
   (11, 0b00000010100, .ac_0_p7, 0x0007), (11, 0b00000010101, .ac_0_n7, 0x03F9),
   (11, 0b00000011000, .ac_1_p4, 0x0404), (11, 0b00000011001, .ac_1_n4, 0x07FC),
   (11, 0b00000010110, .ac_2_p3, 0x0803), (11, 0b00000010111, .ac_2_n3, 0x0BFD),
   (11, 0b00000011110, .ac_4_p2, 0x1002), (11, 0b00000011111, .ac_4_n2, 0x13FE),
   (11, 0b00000010010, .ac_5_p2, 0x1402), (11, 0b00000010011, .ac_5_n2, 0x17FE)]

theorem test_codes_1 : rowsDecode codeRows1 = true ∧ rowsRun codeRows1 = true := by decide +kernel

/-- 30_encoding.md R87: ordinals 56 to 83. -/
def codeRows2 : List CodeRow :=
  [(11, 0b00000011100, .ac_14_p1, 0x3801), (11, 0b00000011101, .ac_14_n1, 0x3BFF),
   (11, 0b00000011010, .ac_15_p1, 0x3C01), (11, 0b00000011011, .ac_15_n1, 0x3FFF),
   (11, 0b00000010000, .ac_16_p1, 0x4001), (11, 0b00000010001, .ac_16_n1, 0x43FF),
   (13, 0b0000000111010, .ac_0_p8, 0x0008), (13, 0b0000000111011, .ac_0_n8, 0x03F8),
   (13, 0b0000000110000, .ac_0_p9, 0x0009), (13, 0b0000000110001, .ac_0_n9, 0x03F7),
   (13, 0b0000000100110, .ac_0_p10, 0x000A), (13, 0b0000000100111, .ac_0_n10, 0x03F6),
   (13, 0b0000000100000, .ac_0_p11, 0x000B), (13, 0b0000000100001, .ac_0_n11, 0x03F5),
   (13, 0b0000000110110, .ac_1_p5, 0x0405), (13, 0b0000000110111, .ac_1_n5, 0x07FB),
   (13, 0b0000000101000, .ac_2_p4, 0x0804), (13, 0b0000000101001, .ac_2_n4, 0x0BFC),
   (13, 0b0000000111000, .ac_3_p3, 0x0C03), (13, 0b0000000111001, .ac_3_n3, 0x0FFD),
   (13, 0b0000000100100, .ac_4_p3, 0x1003), (13, 0b0000000100101, .ac_4_n3, 0x13FD),
   (13, 0b0000000111100, .ac_6_p2, 0x1802), (13, 0b0000000111101, .ac_6_n2, 0x1BFE),
   (13, 0b0000000101010, .ac_7_p2, 0x1C02), (13, 0b0000000101011, .ac_7_n2, 0x1FFE),
   (13, 0b0000000100010, .ac_8_p2, 0x2002), (13, 0b0000000100011, .ac_8_n2, 0x23FE)]

theorem test_codes_2 : rowsDecode codeRows2 = true ∧ rowsRun codeRows2 = true := by decide +kernel

/-- 30_encoding.md R87: ordinals 84 to 111. -/
def codeRows3 : List CodeRow :=
  [(13, 0b0000000111110, .ac_17_p1, 0x4401), (13, 0b0000000111111, .ac_17_n1, 0x47FF),
   (13, 0b0000000110100, .ac_18_p1, 0x4801), (13, 0b0000000110101, .ac_18_n1, 0x4BFF),
   (13, 0b0000000110010, .ac_19_p1, 0x4C01), (13, 0b0000000110011, .ac_19_n1, 0x4FFF),
   (13, 0b0000000101110, .ac_20_p1, 0x5001), (13, 0b0000000101111, .ac_20_n1, 0x53FF),
   (13, 0b0000000101100, .ac_21_p1, 0x5401), (13, 0b0000000101101, .ac_21_n1, 0x57FF),
   (14, 0b00000000110100, .ac_0_p12, 0x000C), (14, 0b00000000110101, .ac_0_n12, 0x03F4),
   (14, 0b00000000110010, .ac_0_p13, 0x000D), (14, 0b00000000110011, .ac_0_n13, 0x03F3),
   (14, 0b00000000110000, .ac_0_p14, 0x000E), (14, 0b00000000110001, .ac_0_n14, 0x03F2),
   (14, 0b00000000101110, .ac_0_p15, 0x000F), (14, 0b00000000101111, .ac_0_n15, 0x03F1),
   (14, 0b00000000101100, .ac_1_p6, 0x0406), (14, 0b00000000101101, .ac_1_n6, 0x07FA),
   (14, 0b00000000101010, .ac_1_p7, 0x0407), (14, 0b00000000101011, .ac_1_n7, 0x07F9),
   (14, 0b00000000101000, .ac_2_p5, 0x0805), (14, 0b00000000101001, .ac_2_n5, 0x0BFB),
   (14, 0b00000000100110, .ac_3_p4, 0x0C04), (14, 0b00000000100111, .ac_3_n4, 0x0FFC),
   (14, 0b00000000100100, .ac_5_p3, 0x1403), (14, 0b00000000100101, .ac_5_n3, 0x17FD)]

theorem test_codes_3 : rowsDecode codeRows3 = true ∧ rowsRun codeRows3 = true := by decide +kernel

/-- 30_encoding.md R87: ordinals 112 to 139. -/
def codeRows4 : List CodeRow :=
  [(14, 0b00000000100010, .ac_9_p2, 0x2402), (14, 0b00000000100011, .ac_9_n2, 0x27FE),
   (14, 0b00000000100000, .ac_10_p2, 0x2802), (14, 0b00000000100001, .ac_10_n2, 0x2BFE),
   (14, 0b00000000111110, .ac_22_p1, 0x5801), (14, 0b00000000111111, .ac_22_n1, 0x5BFF),
   (14, 0b00000000111100, .ac_23_p1, 0x5C01), (14, 0b00000000111101, .ac_23_n1, 0x5FFF),
   (14, 0b00000000111010, .ac_24_p1, 0x6001), (14, 0b00000000111011, .ac_24_n1, 0x63FF),
   (14, 0b00000000111000, .ac_25_p1, 0x6401), (14, 0b00000000111001, .ac_25_n1, 0x67FF),
   (14, 0b00000000110110, .ac_26_p1, 0x6801), (14, 0b00000000110111, .ac_26_n1, 0x6BFF),
   (15, 0b000000000111110, .ac_0_p16, 0x0010), (15, 0b000000000111111, .ac_0_n16, 0x03F0),
   (15, 0b000000000111100, .ac_0_p17, 0x0011), (15, 0b000000000111101, .ac_0_n17, 0x03EF),
   (15, 0b000000000111010, .ac_0_p18, 0x0012), (15, 0b000000000111011, .ac_0_n18, 0x03EE),
   (15, 0b000000000111000, .ac_0_p19, 0x0013), (15, 0b000000000111001, .ac_0_n19, 0x03ED),
   (15, 0b000000000110110, .ac_0_p20, 0x0014), (15, 0b000000000110111, .ac_0_n20, 0x03EC),
   (15, 0b000000000110100, .ac_0_p21, 0x0015), (15, 0b000000000110101, .ac_0_n21, 0x03EB),
   (15, 0b000000000110010, .ac_0_p22, 0x0016), (15, 0b000000000110011, .ac_0_n22, 0x03EA)]

theorem test_codes_4 : rowsDecode codeRows4 = true ∧ rowsRun codeRows4 = true := by decide +kernel

/-- 30_encoding.md R87: ordinals 140 to 167. -/
def codeRows5 : List CodeRow :=
  [(15, 0b000000000110000, .ac_0_p23, 0x0017), (15, 0b000000000110001, .ac_0_n23, 0x03E9),
   (15, 0b000000000101110, .ac_0_p24, 0x0018), (15, 0b000000000101111, .ac_0_n24, 0x03E8),
   (15, 0b000000000101100, .ac_0_p25, 0x0019), (15, 0b000000000101101, .ac_0_n25, 0x03E7),
   (15, 0b000000000101010, .ac_0_p26, 0x001A), (15, 0b000000000101011, .ac_0_n26, 0x03E6),
   (15, 0b000000000101000, .ac_0_p27, 0x001B), (15, 0b000000000101001, .ac_0_n27, 0x03E5),
   (15, 0b000000000100110, .ac_0_p28, 0x001C), (15, 0b000000000100111, .ac_0_n28, 0x03E4),
   (15, 0b000000000100100, .ac_0_p29, 0x001D), (15, 0b000000000100101, .ac_0_n29, 0x03E3),
   (15, 0b000000000100010, .ac_0_p30, 0x001E), (15, 0b000000000100011, .ac_0_n30, 0x03E2),
   (15, 0b000000000100000, .ac_0_p31, 0x001F), (15, 0b000000000100001, .ac_0_n31, 0x03E1),
   (16, 0b0000000000110000, .ac_0_p32, 0x0020), (16, 0b0000000000110001, .ac_0_n32, 0x03E0),
   (16, 0b0000000000101110, .ac_0_p33, 0x0021), (16, 0b0000000000101111, .ac_0_n33, 0x03DF),
   (16, 0b0000000000101100, .ac_0_p34, 0x0022), (16, 0b0000000000101101, .ac_0_n34, 0x03DE),
   (16, 0b0000000000101010, .ac_0_p35, 0x0023), (16, 0b0000000000101011, .ac_0_n35, 0x03DD),
   (16, 0b0000000000101000, .ac_0_p36, 0x0024), (16, 0b0000000000101001, .ac_0_n36, 0x03DC)]

theorem test_codes_5 : rowsDecode codeRows5 = true ∧ rowsRun codeRows5 = true := by decide +kernel

/-- 30_encoding.md R87: ordinals 168 to 195. -/
def codeRows6 : List CodeRow :=
  [(16, 0b0000000000100110, .ac_0_p37, 0x0025), (16, 0b0000000000100111, .ac_0_n37, 0x03DB),
   (16, 0b0000000000100100, .ac_0_p38, 0x0026), (16, 0b0000000000100101, .ac_0_n38, 0x03DA),
   (16, 0b0000000000100010, .ac_0_p39, 0x0027), (16, 0b0000000000100011, .ac_0_n39, 0x03D9),
   (16, 0b0000000000100000, .ac_0_p40, 0x0028), (16, 0b0000000000100001, .ac_0_n40, 0x03D8),
   (16, 0b0000000000111110, .ac_1_p8, 0x0408), (16, 0b0000000000111111, .ac_1_n8, 0x07F8),
   (16, 0b0000000000111100, .ac_1_p9, 0x0409), (16, 0b0000000000111101, .ac_1_n9, 0x07F7),
   (16, 0b0000000000111010, .ac_1_p10, 0x040A), (16, 0b0000000000111011, .ac_1_n10, 0x07F6),
   (16, 0b0000000000111000, .ac_1_p11, 0x040B), (16, 0b0000000000111001, .ac_1_n11, 0x07F5),
   (16, 0b0000000000110110, .ac_1_p12, 0x040C), (16, 0b0000000000110111, .ac_1_n12, 0x07F4),
   (16, 0b0000000000110100, .ac_1_p13, 0x040D), (16, 0b0000000000110101, .ac_1_n13, 0x07F3),
   (16, 0b0000000000110010, .ac_1_p14, 0x040E), (16, 0b0000000000110011, .ac_1_n14, 0x07F2),
   (17, 0b00000000000100110, .ac_1_p15, 0x040F), (17, 0b00000000000100111, .ac_1_n15, 0x07F1),
   (17, 0b00000000000100100, .ac_1_p16, 0x0410), (17, 0b00000000000100101, .ac_1_n16, 0x07F0),
   (17, 0b00000000000100010, .ac_1_p17, 0x0411), (17, 0b00000000000100011, .ac_1_n17, 0x07EF)]

theorem test_codes_6 : rowsDecode codeRows6 = true ∧ rowsRun codeRows6 = true := by decide +kernel

/-- 30_encoding.md R87: ordinals 196 to 222. -/
def codeRows7 : List CodeRow :=
  [(17, 0b00000000000100000, .ac_1_p18, 0x0412), (17, 0b00000000000100001, .ac_1_n18, 0x07EE),
   (17, 0b00000000000101000, .ac_6_p3, 0x1803), (17, 0b00000000000101001, .ac_6_n3, 0x1BFD),
   (17, 0b00000000000110100, .ac_11_p2, 0x2C02), (17, 0b00000000000110101, .ac_11_n2, 0x2FFE),
   (17, 0b00000000000110010, .ac_12_p2, 0x3002), (17, 0b00000000000110011, .ac_12_n2, 0x33FE),
   (17, 0b00000000000110000, .ac_13_p2, 0x3402), (17, 0b00000000000110001, .ac_13_n2, 0x37FE),
   (17, 0b00000000000101110, .ac_14_p2, 0x3802), (17, 0b00000000000101111, .ac_14_n2, 0x3BFE),
   (17, 0b00000000000101100, .ac_15_p2, 0x3C02), (17, 0b00000000000101101, .ac_15_n2, 0x3FFE),
   (17, 0b00000000000101010, .ac_16_p2, 0x4002), (17, 0b00000000000101011, .ac_16_n2, 0x43FE),
   (17, 0b00000000000111110, .ac_27_p1, 0x6C01), (17, 0b00000000000111111, .ac_27_n1, 0x6FFF),
   (17, 0b00000000000111100, .ac_28_p1, 0x7001), (17, 0b00000000000111101, .ac_28_n1, 0x73FF),
   (17, 0b00000000000111010, .ac_29_p1, 0x7401), (17, 0b00000000000111011, .ac_29_n1, 0x77FF),
   (17, 0b00000000000111000, .ac_30_p1, 0x7801), (17, 0b00000000000111001, .ac_30_n1, 0x7BFF),
   (17, 0b00000000000110110, .ac_31_p1, 0x7C01), (17, 0b00000000000110111, .ac_31_n1, 0x7FFF),
   (2, 0b10, .eob, 0xFE00)]

theorem test_codes_7 : rowsDecode codeRows7 = true ∧ rowsRun codeRows7 = true := by decide +kernel

/-! ### Well-formedness: an ill-formed term for each check -/

/-- 30_encoding.md R96: the two extension bytes are no short payload. -/
theorem test_lain_short_refused :
    (Instr.escLainPayloadShort 5 0x00).wellFormed = false ∧ (Instr.escLainPayloadShort 5 0x80).wellFormed = false ∧
      (Instr.escLainPayloadShort 5 0x81).wellFormed = true := by decide

/-- 30_encoding.md R107: a bit count of 0. -/
theorem test_width_zero_refused :
    [Instr.brReadu 0, .brReads 0, .brPeeku 0, .brPeeks 0, .brSkip 0, .bwWritev 0].all (fun i => !i.wellFormed) = true ∧
      [Instr.brReadu 1, .brReads 31, .brPeeku 1, .brPeeks 31, .brSkip 1, .bwWritev 31].all Instr.wellFormed = true := by
  decide

/-- 30_encoding.md R107: the reserved alignment code. -/
theorem test_align_three_refused :
    (Instr.bwInit .be 3).wellFormed = false ∧ (Instr.bwInit .be 2).wellFormed = true := by decide

/-- 30_encoding.md R107: the reserved format codes. -/
theorem test_format_five_refused :
    [Instr.decStart 5, .encFrame 5, .srchSingle 6, .srchPartial 7].all (fun i => !i.wellFormed) = true ∧
      [Instr.decStart 4, .encFrame 4, .srchSingle 4, .srchPartial 4].all Instr.wellFormed = true := by decide

/-! ### Decoding of the other rows -/

/-- The command words of 30_encoding.md R104, with their fields of R103. -/
theorem test_decode_commands :
    [(0x0100#16, Instr.reset), (0x1000, .brInit .le16), (0x1001, .brInit .be), (0x1104, .brReadu 4),
      (0x120A, .brReads 10), (0x1311, .brPeeku 17), (0x1404, .brPeeks 4), (0x151F, .brSkip 31), (0x1600, .brBitsread),
      (0x1700, .brBitsrem), (0x2002, .bwInit .le16 1), (0x2005, .bwInit .be 2), (0x210C, .bwWritev 12),
      (0x2200, .bwWritestr), (0x2300, .bwFinal), (0x3001, .ctDecode .lain), (0x3100, .ctEncode .standard),
      (0x4000, .hdrIdentify), (0x5004, .decStart 4), (0x5100, .decNext), (0x5200, .decStatus), (0x6003, .encFrame 3),
      (0x7001, .srchSingle 1), (0x7102, .srchPartial 2), (0x7200, .srchLain), (0x7300, .srchIki), (0x8000, .lzDecomp),
      (0x8100, .lzComp)].all
      (fun r => decodeCommand r.1 == .run r.2 && decodeTableWord 16 r.1.toNat == some r.2) = true := by decide +kernel

/-- 95_test_vectors.md V-EX1 to V-EX3, V-BR16: words that are no command. -/
theorem test_decode_rejects :
    decodeCommand 0x0200 = .reject .badOpcode ∧ decodeCommand 0x0101 = .reject .badImm ∧
      decodeCommand 0x1601 = .reject .badImm ∧ decodeCommand 0x1120 = .reject .badImm := by decide

/-- 30_encoding.md R91, R92: the ten-bit DC and the luma DC tokens. -/
theorem test_decode_luma :
    decodeAt .dcTen (toBits 10 0b1111111101) = .ok (.dc10 0x3FD) [] ∧
    [(3, 0b100, Instr.dcv3LumaS0), (3, 0b001, .dcv3LumaS1 1), (4, 0b0110, .dcv3LumaS2 2), (6, 0b101101, .dcv3LumaS3 5),
      (7, 0b1101001, .dcv3LumaS4 9), (9, 0b111000001, .dcv3LumaS5 1), (11, 0b11110100000, .dcv3LumaS6 32),
      (13, 0b1111101111111, .dcv3LumaS7 127), (15, 0b111111010000001, .dcv3LumaS8 129)].all
      (fun r => decodeAt .dcLuma (toBits r.1 r.2.1 ++ [true]) == .ok r.2.2 [true]) = true := by decide +kernel

/-- 30_encoding.md R92: the chroma DC tokens. -/
theorem test_decode_chroma :
    [(2, 0b00, Instr.dcv3ChromaS0), (3, 0b011, .dcv3ChromaS1 1), (4, 0b1001, .dcv3ChromaS2 1),
      (6, 0b110110, .dcv3ChromaS3 6), (8, 0b11101001, .dcv3ChromaS4 9), (10, 0b1111000001, .dcv3ChromaS5 1),
      (12, 0b111110100000, .dcv3ChromaS6 32), (14, 0b11111101111111, .dcv3ChromaS7 127),
      (16, 0b1111111010000001, .dcv3ChromaS8 129)].all
      (fun r => decodeAt .dcChroma (toBits r.1 r.2.1 ++ [true]) == .ok r.2.2 [true]) = true := by decide +kernel

/-- 30_encoding.md R95, R96, R98: escape payloads and padding tails. -/
theorem test_decode_payloads :
    decodeAt .code (toBits 6 0b000001) = .ok .esc [] ∧
    decodeAt .escStd (toBits 16 0b0000001111111111) = .ok (.escStdPayload 0 0x3FF) [] ∧
    decodeAt .escLain (toBits 14 0b11111001100100) = .ok (.escLainPayloadShort 62 100) [] ∧
    decodeAt .escLain (toBits 22 0b0000110000000011001000) = .ok (.escLainPayloadPos 3 200) [] ∧
    decodeAt .escLain (toBits 22 0b0000111000000000111000) = .ok (.escLainPayloadNeg 3 56) [] ∧
    decodeAt .padStrv2 (toBits 10 0b0111111111) = .ok .pad10Strv2 [] ∧
    decodeAt .padStrv3 (toBits 10 0b1111111111) = .ok .pad10Strv3 [] ∧
    decodeAt .padStrv2 (toBits 10 0b1111111111) = .reject .notPadding := by decide +kernel

/-- 30_encoding.md R101: the LZSS byte tokens. -/
theorem test_decode_lzss :
    decodeAt .lzFlag (toBits 8 0x40) = .ok (.lzFlag 0x40) [] ∧
    decodeAt .lzLiteral (toBits 8 0xC7) = .ok (.lzLiteral 0xC7) [] ∧
    decodeAt .lzBackref (toBits 16 0x0302) = .ok (.lzBackrefShort 3 2) [] ∧
    decodeAt .lzBackref (toBits 24 0x0780C7) = .ok (.lzBackrefLong 7 199) [] := by decide

/-! ### One step: the bit reader (V-BR) and the writer (V-BW) -/

/-- The stream of V-BR1. -/
def vbr1 : State := reading .le16 [0x34, 0x12, 0x78, 0x56]

/-- V-BR3: the same, twelve bits on. -/
def vbr3 : State := vbr1.withRd ⟨0, 4, .le16, 2, 0x1234, 4, false⟩

theorem test_br_init :
    (nextOf (exec (.brInit .be) (withOps { buffer := [0x12, 0x34, 0x56], stop := 3 }))).map
      (fun t => (bitsRemaining t.rd, (takeBits t.frame t.rd 16).value)) = some (16, 0x1234) := by decide +kernel

theorem test_br_readu :
    replyOf (exec (.brReadu 8) vbr1) = some (.value 0x12) ∧
      (nextOf (exec (.brReadu 24) vbr3)).map (fun t => (t.host.reply, bitsRead t.rd, t.rd.eos)) =
        some (.exception 2 20 (some 0x456780), 32, true) := by decide +kernel

theorem test_br_reads :
    replyOf (exec (.brReads 10) (reading .be [0xFF, 0xFF])) = some (.value (-1)) ∧
      replyOf (exec (.brReads 10) (reading .be [0x80, 0x00])) = some (.value (-512)) := by decide +kernel

theorem test_br_peeku :
    (nextOf (exec (.brPeeku 17) vbr3)).map (fun t => (t.host.reply, t.rd)) = some (.peek 0x8ACF 17, vbr3.rd) := by
  decide +kernel

theorem test_br_peeks : replyOf (exec (.brPeeks 4) (reading .be [0xB0, 0x00])) = some (.peek (-5) 4) :=
  by decide +kernel

theorem test_br_skip :
    (nextOf (exec (.brSkip 16) vbr1)).map (fun t => (bitsRead t.rd, (takeBits t.frame t.rd 16).value)) =
      some (16, 0x5678) := by decide +kernel

theorem test_br_counts :
    replyOf (exec .brBitsread vbr3) = some (.count 12) ∧ replyOf (exec .brBitsrem vbr3) = some (.count 20) := by
  decide +kernel

theorem test_br_refused :
    replyOf (exec (.brReadu 0) vbr1) = some (.exception 6 3 none) ∧
      replyOf (exec (.brReadu 4) (decoding .strv2 1 .midBlock 0 [true])) = some (.exception 6 4 none) :=
        by decide +kernel

theorem test_bw_init :
    (nextOf (exec (.bwInit .be 2) State.reset)).map (fun t => t.wr) = some ⟨[], .be, .four, false⟩ ∧
      replyOf (exec (.bwInit .le16 0) State.reset) = some (.exception 6 4 none) := by decide

theorem test_bw_writev :
    (nextOf (exec (.bwWritev 8) (withOps { value := 0x1A5 }))).map (fun t => t.wr.bits) = some (toBits 8 0xA5) ∧
      (nextOf (exec (.bwWritev 10) (withOps { value := -1 }))).map (fun t => t.wr.bits) =
        some (List.replicate 10 true) := by decide

theorem test_bw_writestr :
    (nextOf (exec .bwWritestr (withOps { chars := ['1', '1', '0'] }))).map (fun t => t.wr.bits) =
        some [true, true, false] ∧
      replyOf (exec .bwWritestr (withOps { chars := ['1', '0', '2', '1'] })) = some (.exception 6 4 none) := by decide

/-- V-BW1, V-BW3. -/
theorem test_bw_final :
    replyOf (exec .bwFinal (State.reset.withWr ⟨toBits 7 0b1100101, .le16, .two, false⟩)) =
        some (.bytes [0x00, 0xCA]) ∧
      replyOf (exec .bwFinal (State.reset.withWr ⟨toBits 10 0x3FF, .be, .four, false⟩)) =
        some (.bytes [0xFF, 0xC0, 0x00, 0x00]) := by decide +kernel

/-! ### One step: the code table (V-CT), headers (V-HD), RESET -/

theorem test_ct_decode :
    [(0x1FFFF, 1, 3, CodeMeaning.ac 0 (-1)), (0x08000, 4, 5, .ac 0 2), (0x10000, 222, 2, .eob), (0x00800, 223, 6, .esc),
      (0x00020, 196, 17, .ac 1 18), (0x0007E, 177, 16, .ac 1 (-8))].all
      (fun r => replyOf (exec (.ctDecode .standard) (withOps { window := r.1 })) ==
        some (.entry r.2.1 r.2.2.1 r.2.2.2)) = true := by decide +kernel

theorem test_ct_decode_stops :
    replyOf (exec (.ctDecode .standard) (withOps { window := 0x1F })) = some .noMatch ∧
      replyOf (exec (.ctDecode .standard) (withOps { window := 0x20000 })) = some (.exception 6 4 none) :=
        by decide +kernel

theorem test_ct_encode :
    [(1, -1, 3, 4, 0b0111), (0, 40, 174, 16, 0b100000), (31, -1, 221, 17, 0b110111), (2, 5, 106, 14, 0b101000)].all
      (fun r => replyOf (exec (.ctEncode .standard) (withOps { run := r.1, level := r.2.1 })) ==
        some (.code r.2.2.1 (toBits r.2.2.2.1 r.2.2.2.2))) = true := by decide +kernel

theorem test_ct_encode_stops :
    replyOf (exec (.ctEncode .standard) (withOps { run := 0, level := 41 })) = some .noCode ∧
      replyOf (exec (.ctEncode .standard) (withOps { run := 64, level := 1 })) = some (.exception 6 4 none) := by
  decide +kernel

/-- An STR header of the given scale and version, H0 arbitrary (V-HD9). -/
def strHeader (scale version : Byte) : List Byte := [0xFF, 0xFF, 0x00, 0x38, scale, 0x00, version, 0x00]

theorem test_hdr_identify :
    [(1, Format.strv1), (2, .strv2), (3, .strv3)].all (fun r =>
      replyOf (exec .hdrIdentify (withOps { buffer := strHeader 10 r.1, length := 8, mbCount := 1 })) ==
        some (.params { format := r.2.code, buffer := strHeader 10 r.1, start := 8, stop := 8, mbCount := 1,
                        qscale := 10 })) = true := by decide +kernel

/-- V-HD4 to V-HD8. -/
theorem test_hdr_rejects :
    strValid .strv2 (strHeader 10 4) 8 = false ∧ strValid .strv2 (strHeader 0 2) 8 = false ∧
      strValid .strv2 (strHeader 64 2) 8 = false ∧ strValid .strv2 (strHeader 10 2) 7 = false ∧
      replyOf (exec .hdrIdentify (withOps { buffer := strHeader 10 2, length := 9 })) = some (.exception 6 4 none) := by
  decide +kernel

/-- V-EX4: RESET leaves IDLE with no fault and no bits read. -/
theorem test_reset :
    (nextOf (exec .reset (decoding .strv2 1 .fault 3 []))).map (fun t => (t.dec, t.rd, t.err)) =
      some (DecRegs.reset, ReaderRegs.reset, ErrRegs.reset) := by decide +kernel

/-! ### One step: the decoder (V-DE, V-ES) -/

theorem test_dec_start :
    (nextOf (exec (.decStart 1) (withOps { params :=
      { format := 1, buffer := strHeader 10 2 ++ [0x20, 0x00], start := 8, stop := 10, mbCount := 1, qscale :=
        10 } }))).map
      (fun t => (t.dec.state, bitsRemaining t.rd, t.cfg.qscale)) = some (.blockStart, 16, 10) ∧
    replyOf (exec (.decStart 5) State.reset) = some (.exception 6 4 none) := by decide +kernel

/-- V-DE9, V-DE10: the DC range check and the size-code check of STRv3. -/
theorem test_dec_next :
    replyOf (exec .decNext (decoding .strv3 1 .blockStart 0 (toBits 16 0xFE80))) = some (.exception 3 3 none) ∧
      replyOf (exec .decNext (decoding .strv3 1 .blockStart 0 (toBits 16 0xFF00))) = some (.exception 3 4 none) := by
  decide +kernel

/-- V-DE6, V-DE7: no code in the window, and no whole window left. -/
theorem test_dec_next_window :
    replyOf (exec .decNext (decoding .strv2 1 .midBlock 0 (toBits 32 0))) = some (.exception 3 1 none) ∧
      replyOf (exec .decNext (decoding .strv2 1 .midBlock 0 (toBits 16 0))) = some (.exception 2 16 none) := by
  decide +kernel

theorem test_dec_status :
    (nextOf (exec .decStatus (decoding .strv2 1 .padding 6 (toBits 16 0)))).map (fun t => t.host.reply) =
      some (.status ⟨.padding, 0, 0, 10, 0, 0, .notChecked, false, 0, 0, 0, 0, 0, 1, 12, 6⟩) := by decide +kernel

/-- DC −3 in STRv2 (P1), and by the class's scale in Lain. -/
theorem test_dc10 :
    replyOf (exec (.dc10 0x3FD) (decoding .strv2 1 .blockStart 1 (toBits 10 0x3FD))) = some (.mdec 0x2BFD) ∧
      [(1, 0x7BFD#16), (2, 0x53FD)].all (fun r =>
        replyOf (exec (.dc10 0x3FD) (decoding .lain 1 .blockStart r.1 (toBits 10 0x3FD))) == some (.mdec r.2)) =
          true := by
  decide +kernel

/-- 30_encoding.md R92, R93, 43_decoder.md R191: luma tokens from predictor 0, scale 10. -/
theorem test_dcv3_luma :
    [(3, 0b100, Instr.dcv3LumaS0, 0), (3, 0b000, .dcv3LumaS1 0, -4), (4, 0b0111, .dcv3LumaS2 3, 12),
      (6, 0b101001, .dcv3LumaS3 1, -24), (7, 0b1101001, .dcv3LumaS4 9, 36), (9, 0b111000001, .dcv3LumaS5 1, -120),
      (11, 0b11110100000, .dcv3LumaS6 32, 128), (13, 0b1111101111111, .dcv3LumaS7 127, 508),
      (15, 0b111111001111111, .dcv3LumaS8 127, -512)].all
      (fun r => replyOf (exec r.2.2.1 (decoding .strv3 1 .blockStart 2 (toBits r.1 r.2.1))) ==
        some (.mdec (mdec 10 r.2.2.2))) = true := by decide +kernel

/-- The same of the chroma tokens. -/
theorem test_dcv3_chroma :
    [(2, 0b00, Instr.dcv3ChromaS0, 0), (3, 0b011, .dcv3ChromaS1 1, 4), (4, 0b1001, .dcv3ChromaS2 1, -8),
      (6, 0b110110, .dcv3ChromaS3 6, 24), (8, 0b11100001, .dcv3ChromaS4 1, -56), (10, 0b1111010000, .dcv3ChromaS5 16,
        64),
      (12, 0b111110000000, .dcv3ChromaS6 0, -252), (14, 0b11111101000000, .dcv3ChromaS7 64, 256),
      (16, 0b1111111001111111, .dcv3ChromaS8 127, -512)].all
      (fun r => replyOf (exec r.2.2.1 (decoding .strv3 1 .blockStart 1 (toBits r.1 r.2.1))) ==
        some (.mdec (mdec 10 r.2.2.2))) = true := by decide +kernel

/-- V-ES1, V-ES2, V-DE8. -/
theorem test_escape :
    replyOf (exec .esc (decoding .strv1 1 .midBlock 0 (toBits 22 0b0000010000000000101001))) = some (.mdec 0x0029) ∧
      replyOf (exec (.escStdPayload 3 0x3FF) (decoding .strv2 1 .midBlock 0 (toBits 16 0b0000111111111111))) =
        some (.mdec 0x0FFF) ∧
      replyOf (exec (.escStdPayload 63 1) (decoding .strv2 1 .midBlock 0 (toBits 16 0b1111110000000001))) =
        some (.exception 3 2 none) := by decide +kernel

/-- V-ES3, V-ES5, V-ES7, V-ES8. -/
theorem test_escape_lain :
    [(14, 0b00000001100100, Instr.escLainPayloadShort 0 100, 100), (14, 0b00000011111111,
      .escLainPayloadShort 0 0xFF, -1),
      (22, 0b0000000000000011001000, .escLainPayloadPos 0 200, 200), (22, 0b0000000000000000000101,
        .escLainPayloadPos 0 5, 5),
      (22, 0b0000001000000000111000, .escLainPayloadNeg 0 56, -200), (22, 0b0000001000000000000000,
        .escLainPayloadNeg 0 0, -256)
      ].all
      (fun r => replyOf (exec r.2.2.1 (decoding .lain 1 .midBlock 0 (toBits r.1 r.2.1))) ==
        some (.mdec (mdec 0 r.2.2.2))) = true := by decide +kernel

/-- V-DE1, V-DE13: the padding tails. -/
theorem test_padding :
    [(Instr.pad10Strv2, Format.strv2, 0b0111111111), (.pad10Strv3, .strv3, 0b1111111111)].all (fun r =>
      (nextOf (exec r.1 (decoding r.2.1 1 .padding 6 (toBits 10 r.2.2)))).map
        (fun t => (t.host.reply, t.dec.state, t.dec.padStatus, bitsRead t.rd)) ==
        some (.endMark, .done, .valid, 10)) = true ∧
      (nextOf (exec .decNext (decoding .strv2 1 .padding 6 (toBits 10 0b1100000001)))).map
        (fun t => (t.dec.padStatus, t.err.warnPadding, t.host.diag)) =
        some (.mismatch, true, [⟨.paddingMismatch, 0b1100000001⟩]) := by decide +kernel

/-- A token where the grammar reads none is refused (log 9). -/
theorem test_token_out_of_place :
    [Instr.dc10 0, .dcv3LumaS0, .eob, .escStdPayload 0 0, .pad10Strv2, .lzFlag 0].all (fun i =>
      match exec i State.reset with
      | .refused .tokenOutOfPlace => true
      | _ => false) = true := by decide +kernel

/-! ### One step: the encoder (V-EN), the searches (V-SR) and the LZSS unit (V-LZ) -/

/-- The all-zero source for one macroblock at the given scales. -/
def zeroSource (scales : List Nat) : List Answer :=
  scales.flatMap fun q => (List.range 6).map fun b => ⟨0, b, q, [mdec q 0, eod]⟩

/-- V-EN1's operands. -/
def ven1 : Operands := { mbCount := 1, qscale := 10, source := zeroSource [10] }

/-- V-EN1: the frame at 2-byte alignment, the count field left open. -/
theorem test_enc_frame :
    (encodeFrame { frameJob .strv2 ven1 with align := .two, count := fun n => BitVec.ofNat 16 n }
      ⟨EncRegs.reset, WriterRegs.reset⟩).2 =
      .frame [0x0C, 0x00, 0x00, 0x38, 0x0A, 0x00, 0x02, 0x00, 0x20, 0x00, 0x00, 0x02, 0x02, 0x20, 0x20, 0x00, 0x7F,
        0x02,
        0x00, 0xC0] := by decide +kernel

/-- V-EN2 to V-EN4, V-EN7. -/
theorem test_enc_frame_raises :
    replyOf (exec (.encFrame 1) (withOps { ven1 with source := ⟨0, 3, 10, [mdec 11 0, eod]⟩ :: zeroSource [10] })) =
        some (.exception 5 3 none) ∧
      replyOf (exec (.encFrame 1) (withOps { ven1 with source := [⟨0, 0, 10, [mdec 10 0]⟩] })) =
        some (.exception 6 6 none) ∧
      replyOf (exec (.encFrame 1) (withOps { ven1 with source := [⟨0, 0, 10, [mdec 10 0, mdec 62 1, mdec 0 1,
        eod]⟩] })) =
        some (.exception 6 6 none) ∧
      replyOf (exec (.encFrame 5) (withOps ven1)) = some (.exception 6 4 none) := by decide +kernel

/-- 30_encoding.md R107 and 60_exceptions.md R293 (log 8): a reserved format code keeps OUT, refused operands empty it. -/
theorem test_refused_out :
    [(Instr.encFrame 5, [7#8]), (.srchSingle 6, [7]), (.srchPartial 7, [7]), (.encFrame 1, []), (.srchSingle 4, []),
      (.srchPartial 1, []), (.srchIki, [])].all (fun r =>
        endsIn (fun t => t.out.toBytes == r.2 && t.host.reply == .exception 6 4 none)
          (exec r.1 ((withOps { mbCount := 1, qscale := 64, qOrig := 64 }).withOut (Memory.ofBytes [7])))) = true := by
  decide +kernel

/-- 44_encoder.md R235, 42_headers.md R173 (log 17): no Iki frame of width 0. -/
theorem test_iki_dimensions :
    replyOf (exec (.encFrame 3) (withOps { width := 0, height := 16 })) = some (.exception 6 4 none) := by
  decide +kernel

/-- Section 2.7 of the vectors: rounding, and size codes with differential bits. -/
theorem test_dc_rounding :
    [5, 6, -6, -7, 2, -2, 3, -3, 509, 510, 511, -510, -511, -512].map rnd4 =
        [4, 8, -4, -8, 4, 0, 4, -4, 508, 508, 508, -508, -512, -512] ∧
      dcV3Bits false (-2) = toBits 4 0b1001 ∧ dcV3Bits true 5 = toBits 6 0b101101 ∧ dcV3Bits true 0 = toBits 3 0b100 ∧
      dcV3Bits true 128 = toBits 15 0b111111010000000 ∧ dcV3Bits false (-255) = toBits 16 0b1111111000000000 := by
  decide +kernel

/-- V-ES9, V-ES10. -/
theorem test_lain_levels :
    [100, 200, -200, -1, 0, 256, -256].map lainLevelBits =
      [some (toBits 8 0x64), some (toBits 16 0x00C8), some (toBits 16 0x8038), some (toBits 8 0xFF), some (toBits 16 0),
        none, none] := by decide +kernel

/-- The scale a search found. -/
def foundScale : SearchResult → Option Nat
  | .found _ q => some q
  | .noFit => none
  | .raised _ => none

/-- V-SR1, V-SR2: the search of the all-zero source over scales 1 and 2, at 2-byte alignment; V-SR8. -/
theorem test_srch_single :
    [20, 19].map (fun budget => foundScale
      (singleLoop (fun q => { singleJob .strv2 { ven1 with source := zeroSource [1, 2] } q with
          align := .two, count := fun _ => 0 }) budget [1, 2]
        ⟨searchStart budget, ⟨EncRegs.reset, WriterRegs.reset⟩⟩).2) = [some 1, none] ∧
      replyOf (exec (.srchSingle 4) State.reset) = some (.exception 6 4 none) := by decide +kernel

/-- V-SR5 to V-SR7: the partial search starts at the original scale, which must be legal. -/
theorem test_srch_partial :
    scalesFrom 61 = [61, 62, 63] ∧
      replyOf (exec (.srchPartial 1) (withOps { qOrig := 0 })) = some (.exception 6 4 none) := by decide +kernel

/-- V-SR9. -/
theorem test_srch_lain :
    (List.range 14).map lainPair =
        [(1, 1), (2, 1), (2, 2), (3, 2), (4, 2), (4, 3), (5, 3), (6, 3), (6, 4), (7, 4), (8, 4), (8, 5), (9, 5),
          (10, 5)].map some ∧
      lainPair 93 = some (63, 32) ∧ lainPair 123 = some (63, 62) ∧ lainPair 124 = some (63, 63) := by decide +kernel

/-- V-SR12's order, V-SR13, and the count of the ordering keys. -/
theorem test_srch_iki :
    mbOrder [1, 9] [5, 5] 2 = [1, 0] ∧ mbOrder [7, 7, 7] [2, 1, 1] 3 = [1, 2, 0] ∧
      (ikiPhase2 (ikiJob {}) 9 [1, 0] [1, 1] [0x55] ⟨EncRegs.reset, WriterRegs.reset⟩).2 = .found [0x55] [1, 1] ∧
      replyOf (exec .srchIki (withOps { mbCount := 1, energy := [], distance := [0] })) =
        some (.exception 6 4 none) := by
  decide +kernel

/-- V-LZ2 to V-LZ4, V-LZ6. -/
theorem test_lz_comp :
    lzComp .msbFirst [1, 2, 3, 1, 2, 3, 1, 2, 3, 4] = [0x10, 1, 2, 3, 3, 2, 4] ∧
      lzComp .lsbFirst [1, 2, 3, 1, 2, 3, 1, 2, 3, 4] = [0x08, 1, 2, 3, 3, 2, 4] ∧
      lzComp .msbFirst [0xAA, 0xAA, 0xAA, 0xAA] = [0, 0xAA, 0xAA, 0xAA, 0xAA] ∧
      lzComp .msbFirst (List.replicate 10 7) = [0x40, 7, 6, 0] ∧ lzComp .lsbFirst (List.replicate 10 7) = [2, 7, 6, 0] ∧
      replyOf (exec .lzComp (withOps { data := [] })) = some (.bytes []) := by decide +kernel

/-- V-LZ1, V-LZ10 to V-LZ12. -/
theorem test_lz_decomp :
    lzDecomp .msbFirst [0x10, 1, 2, 3, 3, 2, 4] 10 = (⟨7, [1, 2, 3, 1, 2, 3, 1, 2, 3, 4], 0x10, 4⟩, none) ∧
      lzDecomp .msbFirst [0x40, 7, 6, 0, 0xEE, 0xEE] 10 = (⟨4, List.replicate 10 7, 0x40, 1⟩, none) ∧
      replyOf (exec .lzDecomp (withOps { src := [0x00, 0x41], dsize := 0 })) = some (.unpacked [] 0) ∧
      replyOf (exec .lzDecomp (withOps { src := [0x00, 0x41], start := 3, dsize := 1 })) =
        some (.exception 6 4 none) := by
  decide +kernel

/-- V-LZ7 to V-LZ9. -/
theorem test_lz_malformed :
    lzDecomp .msbFirst [0x10, 1, 2, 3, 3] 10 = (⟨5, [1, 2, 3], 0x10, 3⟩, some .truncated) ∧
      (lzDecomp .msbFirst [0x80, 0, 0] 3).2 = some .badDistance ∧ (lzDecomp .msbFirst [0x40, 7, 6, 0] 5).2 =
        some .overflow := by
  decide +kernel

/-- The LZSS unit inside a run: `dst` made, its next source bytes at LZ_SP 0. -/
def unpacking (dst src : List Byte) (dsize : Nat) : State :=
  (withOps { src := src, dsize := dsize }).withLz ⟨0, Memory.ofBytes dst, 0, 0⟩

/-- The LZSS registers and the reply of a token. -/
def tokenEnd (i : Instr) (s : State) : Option (Nat × List Byte × Byte × Reply) :=
  (nextOf (exec i s)).map fun t => (t.lz.sp, t.lz.dst.toBytes, t.lz.flags, t.host.reply)

theorem test_lz_flag_literal :
    tokenEnd (.lzFlag 0x40) (unpacking [] [0x40] 1) = some (1, [], 0x40, .done) ∧
      tokenEnd (.lzLiteral 9) (unpacking [8] [9] 2) = some (1, [8, 9], 0, .done) ∧
      tokenEnd (.lzLiteral 9) (unpacking [8] [] 2) = some (0, [8], 0, .exception 7 1 none) := by decide +kernel

theorem test_lz_backref :
    tokenEnd (.lzBackrefShort 3 2) (unpacking [1, 2, 3] [3, 2] 10) = some (2, [1, 2, 3, 1, 2, 3, 1, 2, 3], 0, .done) ∧
      tokenEnd (.lzBackrefLong 0 1) (unpacking [1, 2] [0, 0x80, 1] 5) = some (3, [1, 2, 1, 2, 1], 0, .done) := by
  decide +kernel

/-- The distance is checked before the size (46_lzss.md R269). -/
theorem test_lz_backref_stops :
    tokenEnd (.lzBackrefShort 0 0) (unpacking [] [0, 0] 3) = some (2, [], 0, .exception 7 2 none) ∧
      tokenEnd (.lzBackrefLong 9 0) (unpacking [7] [9, 0x80, 0] 5) = some (3, [7], 0, .exception 7 3 none) := by
  decide +kernel

/-! ### The step -/

/-- A command word at the head of the stream is taken and run; with none the block waits. -/
theorem test_step :
    (nextOf (step (State.reset.withFetchWord 16 0x1700))).map (fun t => (t.host.reply, t.host.pending)) =
        some (.count 0, []) ∧
      (nextOf (step State.reset)) = some State.reset := by decide +kernel

/-- A token's word runs as the first step after reset: a code-table string, and a chroma size-8 token (log 28). -/
theorem test_step_tokens :
    replyOf (step (State.reset.withFetchWord 16 0b0000000000110000)) = some (.mdec (mdec 0 32)) ∧
      replyOf (step (State.reset.withFetchWord 16 0b1111111001111111)) = some (.mdec (mdec 1 (-512))) :=
        by decide +kernel

/-! ### Witnesses: the hypotheses of each statement are met, clause by clause -/

/-- The reader's invariant as a test. -/
def readerFits (s : State) : Bool :=
  decide (s.rd.start ≤ s.rd.offset) && decide (s.rd.offset ≤ s.rd.stop) && decide (s.rd.stop ≤ s.frame.size)
    && decide ((s.rd.offset - s.rd.start) % 2 = 0) && decide (s.rd.bitsLeft ≤ 16)
    && decide (s.rd.bitsLeft ≤ 8 * (s.rd.offset - s.rd.start))

theorem readerOk_of_fits {s : State} (h : readerFits s = true) : ReaderOk s := by
  simp only [readerFits, Bool.and_eq_true, decide_eq_true_eq] at h
  obtain ⟨⟨⟨⟨⟨h1, h2⟩, h3⟩, h4⟩, h5⟩, h6⟩ := h
  exact ⟨h1, h2, h3, h4, h5, h6⟩

theorem exists_next {r : Result} (P : State → Prop) [DecidablePred P] (h : endsIn (fun t => decide (P t)) r = true) :
    ∃ t, r = .next t ∧ P t := by
  cases r with
  | next t => exact ⟨t, rfl, by simpa [endsIn] using h⟩
  | fault f => cases f
  | refused f => simp [endsIn] at h

theorem witness_DecodeOfEncode : (Instr.escLainPayloadShort 63 0x81).encodable = true := by decide

theorem witness_EncodeOfDecode :
    decodeAt .escLain (toBits 14 0b11111110000001) = .ok (.escLainPayloadShort 63 0x81) [] := by decide +kernel

/-- 60_exceptions.md R292: power-on reset rejects a table with no escape, and one with two meanings the same. -/
theorem test_power_on_rejects :
    powerOn (fun _ => .eob) = none ∧ powerOn (fun k => if k = 223 then .ac 0 9 else someAssignment k) = none := by
  decide +kernel

theorem witness_TableBuilt :
    (∃ e ∈ codeTable .standard, e.meaning = .ac 31 (-1)) ∧ ∃ e ∈ codeTable .standard, e.meaning = .ac 0 40 := by
  decide +kernel

theorem witness_LookupSpec :
    0x1FFFF < 2 ^ 17 ∧ lookup .standard 0x1FFFF = some ⟨1, toBits 3 7, .ac 0 (-1)⟩ ∧
      (lookup .standard 0x20).isSome = true ∧ lookup .standard 0x1F = none ∧ lookup .lain 0 = none := by
  refine ⟨by decide, by decide +kernel, by decide +kernel, by decide +kernel, ?_⟩
  rw [lookup, List.find?_eq_none]
  intro e he
  have h : e.bits ∈ catalog.map Entry.bits := codeTable_bits .lain ▸ List.mem_map_of_mem he
  have hall : (catalog.map Entry.bits).all (fun b => !b.isPrefixOf (toBits 17 0)) = true := by decide +kernel
  have := List.all_eq_true.1 hall e.bits h
  simp only [Bool.not_eq_true'] at this
  simp only [this, Bool.false_eq_true, not_false_eq_true]

theorem witness_DecodeEncodeAgreement :
    ∃ e ∈ codeTable .standard, e.meaning = .ac 31 (-1) ∧ e.bits.length = 17 ∧ 0 < 2 ^ (17 - e.bits.length) := by
  decide +kernel

theorem witness_CommandRejection :
    (∀ p ∈ opcodeMap, p.1 ≠ (0x0200#16).extractLsb' 8 8) ∧
      ((0x0101#16).extractLsb' 8 8, 0x00#8) ∈ opcodeMap ∧ (0x0101#16).extractLsb' 0 8 &&& ~~~0x00#8 ≠ 0 ∧
      ((0x111F#16).extractLsb' 8 8, 0x1F#8) ∈ opcodeMap ∧ (0x111F#16).extractLsb' 0 8 &&& ~~~0x1F#8 = 0 := by
  refine ⟨by simp [opcodeMap], by simp [opcodeMap], by decide, by simp [opcodeMap], by decide⟩

theorem witness_RejectedWord :
    (State.reset.issue 0x0200).host.pending = [⟨0x0200, {}⟩] ∧ decodeCommand 0x0200 = .reject .badOpcode ∧
      (State.reset.issue 0x0101).host.pending = [⟨0x0101, {}⟩] ∧ decodeCommand 0x0101 = .reject .badImm := by decide

theorem witness_StepTakesNextCommand :
    State.reset.host.pending = [] ∧ (State.reset.issue 0x8100).host.pending = [⟨0x8100, {}⟩] ∧
      decodeCommand 0x8100 = .run .lzComp ∧ 0x8100 < 2 ^ 16 ∧
      decodeCommand (BitVec.ofNat 16 0x0100) = .run .reset := by decide

theorem witness_BeforeFirstFrame : (1 : BitVec 5) ≠ 0 ∧ (31 : BitVec 5) ≠ 0 := by decide

theorem witness_LogicalStream :
    0 ≤ 0 ∧ 0 ≤ ([] : List Byte).length ∧ 1 ≤ 4 ∧ 4 ≤ ([1, 2, 3, 4] : List Byte).length := by decide

theorem witness_TakeBits : ReaderOk State.reset ∧ ReaderOk vbr3 :=
  ⟨readerOk_of_fits (by decide), readerOk_of_fits (by decide)⟩

/-- Twenty bits left: a read of 20 is the longest that succeeds. -/
theorem witness_ReadCommands :
    ReaderOk vbr3 ∧ (20 : BitVec 5) ≠ 0 ∧ (21 : BitVec 5) ≠ 0 ∧ decodeActive vbr3 = false ∧
      (20 : BitVec 5).toNat ≤ (ahead vbr3).length ∧ (ahead vbr3).length < (21 : BitVec 5).toNat :=
  ⟨readerOk_of_fits (by decide), by decide, by decide, by decide, by decide +kernel, by decide +kernel⟩

theorem witness_PeekThenRead : ReaderOk vbr3 ∧ (31 : BitVec 5) ≠ 0 ∧ decodeActive vbr3 = false :=
  ⟨readerOk_of_fits (by decide), by decide, by decide⟩

theorem witness_ReaderQueries : ReaderOk vbr3 ∧ (1 : BitVec 5) ≠ 0 ∧ (31 : BitVec 5) ≠ 0 :=
  ⟨readerOk_of_fits (by decide), by decide, by decide⟩

/-- An empty span at the end of a buffer is legal; a start past the end, and an end past the buffer, are not. -/
theorem witness_BrInit :
    (2 ≤ 2 ∧ 2 ≤ ([1, 2] : List Byte).length ∧ decodeActive (withOps { buffer := [1, 2], start := 2, stop := 2 }) =
      false) ∧
      ¬ ((3 : Nat) ≤ 2) ∧ ¬ (3 ≤ ([1, 2] : List Byte).length) ∧
      ¬ (decodeActive (decoding .strv2 1 .padding 6 []) = false) := by decide +kernel

theorem witness_ReaderRefusals : (1 : BitVec 5) ≠ 0 ∧ decodeActive (decoding .strv2 1 .padding 6 []) = true := by
  decide +kernel

theorem witness_BwInit :
    ((3 : BitVec 2) = 3 ∨ (Policy.be = .le16 ∧ (3 : BitVec 2) = 0)) ∧
      ((0 : BitVec 2) = 3 ∨ (Policy.le16 = .le16 ∧ (0 : BitVec 2) = 0)) ∧
      ¬ ((0 : BitVec 2) = 3 ∨ (Policy.be = .le16 ∧ (0 : BitVec 2) = 0)) ∧
      ¬ ((2 : BitVec 2) = 3 ∨ (Policy.le16 = .le16 ∧ (2 : BitVec 2) = 0)) := by decide

theorem witness_WriterCommands :
    (1 : BitVec 5) ≠ 0 ∧ (withOps { chars := ['0', '1'] }).wr.final = false ∧ (∀ c ∈ ['0', '1'], c = '0' ∨ c = '1') ∧
      (∃ c ∈ ['0', '2'], c ≠ '0' ∧ c ≠ '1') ∧ (State.reset.withWr ⟨[], .be, .one, true⟩).wr.final = true :=
  ⟨by decide, rfl, by simp, ⟨'2', by simp, by decide, by decide⟩, rfl⟩

theorem witness_BwFinal :
    WriterOk (State.reset.withWr ⟨[true], .be, .one, false⟩) ∧ WriterOk State.reset ∧
      (State.reset.withWr ⟨[true], .be, .one, false⟩).wr.final = false ∧ State.reset.wr.final = false :=
  ⟨fun _ => by simp_all, fun _ => by decide, rfl, rfl⟩

theorem witness_WriterReaderAgree :
    (Policy.le16 = .le16 → Align.two ≠ .one) ∧ (finalBytes [true] .le16 .two).length % 2 = 0 ∧
      (Policy.be = .le16 → Align.one ≠ .one) ∧ (finalBytes (toBits 16 5) .be .one).length % 2 = 0 := by decide +kernel

theorem witness_CtCommands :
    2 ^ 17 ≤ (withOps { window := 0x20000 }).host.operands.window ∧
      (withOps { window := 0x1FFFF }).host.operands.window < 2 ^ 17 ∧ lookup .standard 0x1F = none ∧
      (lookup .standard 0x1FFFF).isSome = true ∧ ¬ (64 ≤ 63 ∧ -512 ≤ (0 : Int) ∧ (0 : Int) ≤ 511) ∧
      ¬ (63 ≤ 63 ∧ -512 ≤ (-513 : Int) ∧ (-513 : Int) ≤ 511) ∧ (63 ≤ 63 ∧ -512 ≤ (-512 : Int) ∧ (-512 : Int) ≤ 511) ∧
      (63 ≤ 63 ∧ -512 ≤ (511 : Int) ∧ (511 : Int) ≤ 511) ∧ encodeLookup .standard 63 511 = none ∧
      (encodeLookup .standard 31 (-1)).isSome = true := by decide +kernel

/-- Scales 1 and 63 are the ends of the legal range; the identified record carries the format's code. -/
theorem witness_StrIdentified :
    (Format.strv2, (2 : Byte)) ∈ [(Format.strv1, 1#8), (.strv2, 2#8), (.strv3, 3#8)] ∧
      8 ≤ (strHeader 63 2).length ∧ (strHeader 63 2).getD 2 0 = 0x00#8 ∧ (strHeader 63 2).getD 3 0 = 0x38#8 ∧
      (let scale := ((strHeader 63 2).getD 4 0).toNat + 256 * ((strHeader 63 2).getD 5 0).toNat
       1 ≤ scale ∧ scale ≤ 63) ∧
      (strHeader 63 2).getD 6 0 = 2#8 ∧ (strHeader 63 2).getD 7 0 = 0#8 ∧
      endsIn (fun t => match t.host.reply with
        | .params p => p.format == Format.strv2.code
        | _ => false) (exec .hdrIdentify (withOps { buffer := strHeader 1 2, length := 8 })) = true := by decide +kernel

/-- No format takes a header of no bytes: the header of each of the five has at least one. -/
theorem no_format_of_empty (f : Format) : identifyAs f [] 0 0 = none := by
  have hi := ikiLayout_ok
  have hl := lainLayout_ok
  simp only [ikiLayoutOk, lainLayoutOk, fieldsOk, Bool.and_eq_true, decide_eq_true_eq] at hi hl
  cases f
  · rfl
  · rfl
  · rfl
  · have h : ¬ ikiLayout.lzOffset ≤ 0 := by omega
    simp only [identifyAs, ikiParams, ikiFieldsValid, h, decide_false, Bool.false_and, Bool.false_eq_true, if_false]
  · have h : ¬ lainLayout.bsOffset ≤ 0 := by omega
    simp only [identifyAs, lainValid, h, decide_false, Bool.false_and, Bool.false_eq_true, if_false]

theorem witness_IdentifyOutcome :
    (strHeader 10 2).length < 9 ∧ (strHeader 10 2).length ≤ 8 ∧
      [Format.strv2, .strv3, .strv1, .iki, .lain][0]? = some .strv2 ∧
        (identifyAs .strv2 (strHeader 10 2) 8 1).isSome = true ∧
      [Format.strv2, .strv3, .strv1, .iki, .lain][2]? = some .strv1 ∧
        (identifyAs .strv1 (strHeader 10 1) 8 1).isSome = true ∧
      (∀ g ∈ [Format.strv2, .strv3, .strv1, .iki, .lain].take 2, identifyAs g (strHeader 10 1) 8 1 = none) ∧
      ∀ f, identifyAs f [] 0 0 = none :=
  ⟨by decide, by decide, rfl, by decide +kernel, rfl, by decide +kernel, by decide +kernel, no_format_of_empty⟩

/-- Legal records of an STR format, Lain and Iki, and a scale on either side of the range. -/
theorem witness_DecStart :
    Format.ofCode 5 = none ∧ Format.ofCode 1 = some .strv2 ∧ Format.ofCode 4 = some .lain ∧ Format.ofCode 3 =
      some .iki ∧
      acceptsFrame .strv2 { format := 1, qscale := 63 } = true ∧ acceptsFrame .strv2 { format := 1, qscale := 0 } =
        false ∧
      acceptsFrame .strv2 { format := 1, qscale := 64 } = false ∧
      acceptsFrame .lain { format := 4, qscaleLuma := 1, qscaleChroma := 63 } = true ∧
      acceptsFrame .iki { format := 3, mbCount := 1, ikiTable := List.replicate 12 0 } = true := by decide +kernel

/-- A decode with exactly n bits left, all in the loaded word. -/
def lastBits (f : Format) (st : DecState) (done n : Nat) (word : BitVec 16) : State :=
  (decoding f 1 st done (toBits 16 word.toNat)).withRd ⟨0, 2, policyOf f, 2, word, n, false⟩

theorem witness_DcTenStart :
    (lastBits .strv1 .blockStart 5 10 0x200).dec.state = .blockStart ∧
      (lastBits .strv1 .blockStart 5 10 0x200).cfg.format = .strv1 ∧ ReaderOk (lastBits .strv1 .blockStart 5 10 0x200) ∧
      10 ≤ (ahead (lastBits .strv1 .blockStart 5 10 0x200)).length ∧
      (lastBits .lain .blockStart 2 10 0x200).cfg.format = .lain ∧ ReaderOk (lastBits .lain .blockStart 2 10 0x200) ∧
      10 ≤ (ahead (lastBits .lain .blockStart 2 10 0x200)).length :=
  ⟨by decide +kernel, by decide +kernel, readerOk_of_fits (by decide +kernel), by decide +kernel, by decide +kernel,
    readerOk_of_fits (by decide +kernel), by decide +kernel⟩

/-- A chroma token of size 0, and luma tokens whose sums are −512 (the lowest that fits),
  508 (the highest a predictor of
0 reaches) and 512 (out of range). -/
theorem witness_DcV3Start :
    (dcV3Fields .dcv3ChromaS0 = some (false, 0, 0) ∧ dcV3Fields (.dcv3LumaS8 127) = some (true, 8, 127) ∧
      dcV3Fields (.dcv3LumaS7 127) = some (true, 7, 127) ∧ dcV3Fields (.dcv3LumaS8 128) = some (true, 8, 128)) ∧
      ((lastBits .strv3 .blockStart 0 2 0).dec.state = .blockStart ∧
        isLuma (lastBits .strv3 .blockStart 0 2 0).dec.ctxBlock = false ∧
        (dcCode false 0).length + 0 ≤ (ahead (lastBits .strv3 .blockStart 0 2 0)).length) ∧
      ((lastBits .strv3 .blockStart 2 15 0).cfg.format = .strv3 ∧
        isLuma (lastBits .strv3 .blockStart 2 15 0).dec.ctxBlock = true ∧
        (dcCode true 8).length + 8 ≤ (ahead (lastBits .strv3 .blockStart 2 15 0)).length) ∧
      ReaderOk (lastBits .strv3 .blockStart 0 2 0) ∧ ReaderOk (lastBits .strv3 .blockStart 2 15 0) :=
  ⟨by decide, by decide +kernel, by decide +kernel, readerOk_of_fits (by decide +kernel),
    readerOk_of_fits (by decide +kernel)⟩

/-- `AC(31,-1)` at positions 31 and 32: it lands on position 63, or overflows the block. -/
theorem witness_AcCode :
    Instr.ac_31_n1.ordinal = some 221 ∧
      ((codeTable .standard)[221]?).map Entry.meaning = some (.ac 31 (-1)) ∧
      [31, 32].all (fun v =>
        let s := decoding .strv1 1 .midBlock 0 (toBits 17 0b110111)
        let s := s.withDec { s.dec with vpos := v }
        s.dec.state == .midBlock && dialectOf s.cfg.format == .standard && readerFits s &&
          decide (17 ≤ (ahead s).length)) =
        true := by decide +kernel

theorem witness_EndOfBlock :
    Instr.eob.ordinal = some 222 ∧ (codeTable .standard)[222]? = some ⟨222, toBits 2 2, .eob⟩ ∧
      [(Format.strv1, 5), (.strv2, 5), (.iki, 0)].all (fun r =>
        let s := lastBits r.1 .midBlock r.2 2 2
        s.dec.state == .midBlock && dialectOf s.cfg.format == .standard && readerFits s &&
          decide (2 ≤ (ahead s).length)) =
        true := by decide +kernel

theorem witness_EscapePayloads :
    [(Format.strv1, Instr.escStdPayload 62 1), (.strv3, .escStdPayload 63 0), (.lain, .escLainPayloadShort 0 0xFF),
      (.lain, .escLainPayloadPos 0 200), (.lain, .escLainPayloadNeg 0 0)].all (fun r =>
        let s := decoding r.1 1 .midBlock 0 (encode r.2)
        (payloadFields r.2).isSome && r.2.position == payloadPosition s.cfg.format && s.dec.state == .midBlock
          && readerFits s && decide ((encode r.2).length ≤ (ahead s).length)) = true := by decide +kernel

theorem witness_EscapeCode :
    Instr.esc.ordinal = some 223 ∧ (codeTable .standard)[223]? = some ⟨223, toBits 6 1, .esc⟩ ∧
      (let s := decoding .strv2 1 .midBlock 0 (toBits 22 0b0000011111100000000001)
       s.dec.state = .midBlock ∧ dialectOf s.cfg.format = .standard ∧ readerFits s = true ∧ 6 ≤ (ahead s).length ∧
        decodeAt (payloadPosition s.cfg.format) ((ahead s).drop 6) =
          .ok (.escStdPayload 62 1) (List.replicate 10 false) ∧
        payloadFields (.escStdPayload 62 1) = some (62, 1)) := by decide +kernel

/-- The tails of both formats, a mismatch, and nine bits of a tail. -/
theorem witness_PaddingCheck :
    [(Format.strv2, 10, 0x1FF#16), (.strv3, 10, 0x3FF), (.strv2, 10, 0x3FF), (.strv2, 9, 0x0FF)].all (fun r =>
        let s := lastBits r.1 .padding 6 r.2.1 r.2.2
        s.dec.state == .padding && readerFits s && (padTail s.cfg.format).isSome) = true ∧
      (ahead (lastBits .strv2 .padding 6 10 0x1FF)).take 10 = padTailStrv2 ∧
      (ahead (lastBits .strv3 .padding 6 10 0x3FF)).take 10 = padTailStrv3 ∧
      (ahead (lastBits .strv2 .padding 6 10 0x3FF)).take 10 ≠ padTailStrv2 ∧
      (ahead (lastBits .strv2 .padding 6 9 0x0FF)).take 10 ≠ padTailStrv2 := by decide +kernel

theorem witness_DecNextRunsToken :
    [(lastBits .strv2 .blockStart 0 10 0x3FD, Instr.dc10 0x3FD), (lastBits .strv3 .blockStart 2 3 4, .dcv3LumaS0),
      (lastBits .iki .midBlock 0 4 7, .ac_1_n1), (lastBits .strv3 .padding 6 10 0x3FF, .pad10Strv3)].all (fun r =>
        readerFits r.1 && nextToken r.1 == some r.2) = true := by decide +kernel

theorem witness_DecNextAtRest :
    State.reset.dec.state = .idle ∧ (decoding .strv1 0 .done 0 []).dec.state = .done ∧
      (decoding .strv1 1 .fault 0 []).dec.state = .fault ∧ (decoding .iki 1 .blockStart 0 []).dec.state = .blockStart ∧
      (decoding .iki 1 .blockStart 0 []).cfg.format = .iki := by decide +kernel

/-- Twelve zero bits with 17 and with 16 bits left, a two-bit code with one bit left, and a size window of ones in
either class. -/
theorem witness_FaultingWindows :
    [decoding .strv1 1 .midBlock 0 (toBits 17 0), lastBits .strv1 .midBlock 0 16 0, lastBits .strv1 .midBlock 0 1 1,
      decoding .strv3 1 .blockStart 0 (toBits 16 0xFF00),
        decoding .strv3 1 .blockStart 2 (toBits 16 0xFE00)].all readerFits =
        true ∧
      (ahead (decoding .strv1 1 .midBlock 0 (toBits 17 0))).take 12 = List.replicate 12 false ∧
      ((ahead (lastBits .strv1 .midBlock 0 16 0)).take 17 ++ [false]).take 12 = List.replicate 12 false ∧
      (∃ e ∈ codeTable .standard,
        e.bits <+: (ahead (lastBits .strv1 .midBlock 0 1 1)).take 17 ++ List.replicate 16 false ∧
          (ahead (lastBits .strv1 .midBlock 0 1 1)).length < e.bits.length) ∧
      (ahead (decoding .strv3 1 .blockStart 0 (toBits 16 0xFF00))).take 8 = List.replicate 8 true ∧
      (ahead (decoding .strv3 1 .blockStart 2 (toBits 16 0xFE00))).take 7 = List.replicate 7 true := by decide +kernel

/-- A decode whose stream ends with the given bits, the cursor right before them. -/
def endingIn (f : Format) (st : DecState) (done : Nat) (bits : Bits) : State :=
  let s := decoding f 1 st done (List.replicate ((16 - bits.length % 16) % 16) false ++ bits)
  s.withRd (takeBits s.frame s.rd ((16 - bits.length % 16) % 16)).regs

/-- V-DE4's four bits of a DC10, none at all, and nine in Lain; a size code cut short, and differentials of which all or
all but one bit are missing. -/
theorem witness_FaultingWindows_dc :
    [(Format.strv2, 5, toBits 4 0), (.strv1, 0, []), (.lain, 2, toBits 9 0)].all (fun r =>
        let s := endingIn r.1 .blockStart r.2.1 r.2.2
        readerFits s && s.dec.state == .blockStart && s.cfg.format == r.1 && decide ((ahead s).length < 10)) = true ∧
      [(2, toBits 2 0b10, some 0, 2), (2, toBits 3 0b110, some 4, 3), (2, toBits 7 0b1111110, some 8, 7),
        (0, toBits 9 0b111111101, some 8, 9)].all (fun r =>
        let s := endingIn .strv3 .blockStart r.1 r.2.1
        let luma := isLuma s.dec.ctxBlock
        let m := if luma then 7 else 8
        readerFits s && s.dec.state == .blockStart && s.cfg.format == .strv3 &&
          dcSize luma ((ahead s).take m ++ List.replicate (m - (ahead s).length) false) == r.2.2.1 &&
          (ahead s).length == r.2.2.2) = true ∧
      (dcCode true 0).length = 3 ∧ (dcCode true 4).length = 3 ∧ (dcCode true 8).length = 7 ∧
      (dcCode false 8).length = 8 := by
  decide +kernel

/-- The bits left after an escape: five, six and fifteen of a standard payload. -/
theorem witness_FaultingWindows_esc :
    (⟨223, toBits 6 1, .esc⟩ : Entry) ∈ codeTable .standard ∧
      [5, 6, 15].all (fun n =>
        let s := endingIn .strv2 .midBlock 0 (toBits 6 1 ++ List.replicate n false)
        readerFits s && s.dec.state == .midBlock && dialectOf s.cfg.format == .standard
          && ahead s == toBits 6 1 ++ List.replicate n false) = true := by decide +kernel

/-- The same in Lain, whichever string is its escape: five and thirteen bits, and an extended level cut short. -/
theorem witness_FaultingWindows_lain :
    ∃ e ∈ codeTable .lain, e.meaning = .esc ∧
      [5, 13, 21].all (fun n =>
        let s := endingIn .lain .midBlock 0 (e.bits ++ List.replicate n false)
        readerFits s && s.dec.state == .midBlock && s.cfg.format == .lain
          && ahead s == e.bits ++ List.replicate n false) = true := by
  obtain ⟨e, he, hm⟩ := lain_has .esc (.inl rfl)
  refine ⟨e, he, hm, ?_⟩
  have hb : e.bits ∈ catalog.map Entry.bits := codeTable_bits .lain ▸ List.mem_map_of_mem he
  have hall : (catalog.map Entry.bits).all (fun b => [5, 13, 21].all fun n =>
      let s := endingIn .lain .midBlock 0 (b ++ List.replicate n false)
      readerFits s && s.dec.state == .midBlock && s.cfg.format == .lain
        && ahead s == b ++ List.replicate n false) = true := by decide +kernel
  exact List.all_eq_true.1 hall e.bits hb

/-- Every kind of transition: reset, frame start, block start, end of block, tail, fault. -/
theorem witness_DecoderTransitions :
    [(Instr.reset, decoding .strv2 1 .done 6 []), (.decStart 0, withOps { params := { qscale := 1 } }),
      (.dc10 0, lastBits .strv1 .blockStart 0 10 0), (.eob, lastBits .strv2 .midBlock 5 2 2),
      (.pad10Strv2, lastBits .strv2 .padding 6 10 0x1FF), (.decNext, lastBits .strv1 .midBlock 0 16 0)].all (fun r =>
        endsIn (fun t => decide (t.dec.state ≠ r.2.dec.state)) (exec r.1 r.2)) = true := by decide +kernel

/-- A DEC_START of an STRv2 frame of no macroblocks. -/
def emptyStart : State := withOps { params := { format := 1, qscale := 1 } }

/-- Each clause's unit changed by an instruction that owns it, and ERR_* both set and cleared. -/
theorem witness_OnlyOwnersWrite :
    endsIn (fun t => decide (t.cfg ≠ emptyStart.cfg)) (exec (.decStart 1) emptyStart) ∧
      endsIn (fun t => decide (t.dec ≠ emptyStart.dec)) (exec (.decStart 1) emptyStart) ∧
      endsIn (fun t => decide (t.frame ≠ Memory.empty)) (exec (.brInit .be) (withOps { buffer := [1] })) ∧
      endsIn (fun t => decide (t.rd ≠ vbr1.rd)) (exec (.brReadu 1) vbr1) ∧
      endsIn (fun t => decide (t.wr ≠ WriterRegs.reset)) (exec (.bwWritev 1) State.reset) ∧
      endsIn (fun t => decide (t.out ≠ Memory.empty)) (exec .bwFinal (State.reset.withWr ⟨[true], .be, .one, false⟩)) ∧
      endsIn (fun t => decide (t.enc ≠ EncRegs.reset)) (exec (.encFrame 1) (withOps { mbCount := 1, qscale := 1 })) ∧
      endsIn (fun t => decide (t.srch ≠ SrchRegs.reset)) (exec (.srchSingle 1) (withOps { mbCount := 1 })) ∧
      endsIn (fun t => decide (t.lz ≠ (unpacking [] [1] 1).lz)) (exec (.lzFlag 1) (unpacking [] [1] 1)) ∧
      endsIn (fun t => decide (t.err.code ≠ 0)) (exec .decNext State.reset) ∧
      endsIn (fun t => decide (t.err.code ≠ 7)) (exec .lzComp (State.reset.withErr ⟨7, 1, false⟩)) := by decide +kernel

theorem witness_DecodeTerminates :
    acceptsFrame .strv2 { format := 1, qscale := 1, mbCount := 1 } = true ∧ 6 * 1 * 65 + 1 ≤ 391 := by decide +kernel

/-- DC 5, AC(0, 1), end of block, at scale 10: fifteen bits. -/
def threeCodes : List MdecCode := [0x2805, 0x0001, 0xFE00]

theorem witness_BlockRoundTrip :
    let s := decoding .strv1 1 .blockStart 0 (toBits 15 0b000000010111010)
    let st : EncSt := ⟨{ EncRegs.reset with format := .strv1 }, WriterRegs.reset⟩
    s.cfg.format = .strv1 ∧ st.enc.format = s.cfg.format ∧ goodAnswer s.cfg.format (blockScale s).toNat threeCodes ∧
      encodeBlock 0 0 threeCodes st = ((encodeBlock 0 0 threeCodes st).1, none) ∧
      (encodeBlock 0 0 threeCodes st).1.wr.bits = st.wr.bits ++ toBits 15 0b000000010111010 ∧
      s.dec.state = .blockStart ∧ ReaderOk s ∧ ahead s = toBits 15 0b000000010111010 ++ [false] :=
  ⟨by decide +kernel, by decide +kernel, ⟨by decide +kernel, by decide +kernel, fun h => nomatch h⟩, by decide +kernel,
    by decide +kernel, by decide +kernel, readerOk_of_fits (by decide +kernel), by decide +kernel⟩

theorem witness_DiagnosticsGrow :
    endsIn (fun t => decide (t.host.reply = .exception 6 5 none)) (exec .decNext State.reset) = true ∧
      endsIn (fun t => decide (t.host.reply = .endMark)) (exec .decNext (lastBits .strv2 .padding 6 9 0)) = true := by
  decide +kernel

/-! The Iki frame of the witnesses: one macroblock whose start codes have both bytes alike, so that the table reads the
same under every IKI_TABLE_LAYOUT. -/

/-- Scale q and DC 4q: both bytes are 4q. -/
def evenCode (q : Nat) : MdecCode := BitVec.ofNat 16 (q * 4 * 257)

/-- At scale 1 each block has one escaped code, at every other none. -/
def ikiBlock (q : Nat) : List MdecCode := if q = 1 then [evenCode q, mdec 0 300, eod] else [evenCode q, eod]

/-- One macroblock at every scale. -/
def ikiSource : List Answer := (List.range 64).flatMap fun q => (List.range 6).map fun b => ⟨0, b, q, ikiBlock q⟩

/-- A search or an encode of that frame. -/
def ikiOps (budget q : Nat) : Operands :=
  { mbCount := 1, width := 1, height := 16, mbQscale := [q], source := ikiSource, budget := budget, energy := [0],
    distance := [0] }

/-- The bits of a block. -/
def ikiBits (q : Nat) : Bits :=
  ((acCodes (ikiBlock q)).flatMap fun c => (acBits .iki (mdecTop c) (mdecBottom c)).1) ++ eobBits .standard

theorem iki_block : ∀ q, q < 64 → 1 ≤ q →
    (∀ b, b < 6 → askSource ikiSource 0 b q = ikiBlock q) ∧ wellFormedBlock (ikiBlock q) = true ∧
      mdecTop ((ikiBlock q).headD 0) = q ∧ (scaleReg q).toNat = q ∧ (ikiBlock q).headD 0 = evenCode q ∧
      (evenCode q).extractLsb' 8 8 = BitVec.ofNat 8 (4 * q) ∧ (evenCode q).extractLsb' 0 8 = BitVec.ofNat 8 (4 * q) := by
  decide +kernel

/-- Every byte of a one-macroblock table belongs to one of its six entries. -/
theorem entry_covers (a : Nat) (ha : a < 12) :
    ∃ k, k < 6 ∧ (a = (ikiEntryBytes 6 k).1 ∨ a = (ikiEntryBytes 6 k).2) := by
  have hok : ikiEntriesOk 6 (ikiEntryBytes 6) = true := by
    unfold ikiEntryBytes
    split
    · assumption
    · decide
  simp only [ikiEntriesOk, Bool.and_eq_true, decide_eq_true_eq, List.all_eq_true] at hok
  obtain ⟨hn, hlt⟩ := hok
  generalize hL : (List.range 6).flatMap (fun k => [(ikiEntryBytes 6 k).1, (ikiEntryBytes 6 k).2]) = L at hn hlt
  have hlen : L.length = 12 := by rw [← hL]; rfl
  have hsub : L.toFinset ⊆ Finset.range 12 := fun x hx => Finset.mem_range.2 (hlt x (List.mem_toFinset.1 hx))
  have heq := Finset.eq_of_subset_of_card_le hsub (by rw [List.toFinset_card_of_nodup hn, hlen]; simp)
  have hmem : a ∈ L := List.mem_toFinset.1 (heq ▸ Finset.mem_range.2 ha)
  rw [← hL] at hmem
  obtain ⟨k, hk, hak⟩ := List.mem_flatMap.1 hmem
  exact ⟨k, List.mem_range.1 hk, by simpa using hak⟩

/-- The table with the first n entries packed. -/
def packed (c : MdecCode) : Nat → Memory
  | 0 => Memory.ofBytes (List.replicate 12 0#8)
  | n + 1 => ikiPack 6 (packed c n) n c

theorem packed_wf (c : MdecCode) (n : Nat) : (packed c n).wf = true ∧ (packed c n).size = 12 := by
  induction n with
  | zero => exact ⟨Memory.ofBytes_wf _, rfl⟩
  | succ n ih => exact ⟨ikiPack_wf _ _ _ _ ih.1, by simp [packed, ih.2]⟩

/-- A byte of a packed entry reads as the byte that both halves of the code are. -/
theorem packed_read (c : MdecCode) (v : Byte) (hi : c.extractLsb' 8 8 = v) (lo : c.extractLsb' 0 8 = v) (n a k : Nat)
    (hk : k < n) (ha : a < 12) (hak : a = (ikiEntryBytes 6 k).1 ∨ a = (ikiEntryBytes 6 k).2) :
    (packed c n).read a = some v := by
  have hself : ∀ m : Memory, m.wf = true → m.size = 12 → m.read a = some v ∨ True → ∀ p, p = a →
      (m.write p v).read a = some v := fun m hm hs _ p hp => hp ▸ read_write_self m a v hm (by omega)
  have hkeep : ∀ (m : Memory) (p : Nat), m.wf = true → m.size = 12 → m.read a = some v → (m.write p v).read a = some v := by
    intro m p hm hs hr
    by_cases hp : a = p
    · exact hp ▸ read_write_self m a v hm (by omega)
    · rw [read_write_ne m p v a hm hp, hr]
  induction n with
  | zero => omega
  | succ n ih =>
    obtain ⟨hw, hs⟩ := packed_wf c n
    have hw1 := write_wf (packed c n) (ikiEntryBytes 6 n).1 v hw
    have hs1 : ((packed c n).write (ikiEntryBytes 6 n).1 v).size = 12 := by simp [hs]
    simp only [packed, ikiPack, hi, lo]
    by_cases hkn : k = n
    · subst hkn
      rcases hak with h | h
      · exact hkeep _ _ hw1 hs1 (h ▸ read_write_self _ _ v hw (by omega))
      · exact h ▸ read_write_self _ _ v hw1 (by omega)
    · exact hkeep _ _ hw1 hs1 (hkeep _ _ hw hs (ih (by omega)))

theorem packed_bytes (q : Nat) (h1 : 1 ≤ q) (h2 : q < 64) :
    (packed (evenCode q) 6).toBytes = List.replicate 12 (BitVec.ofNat 8 (4 * q)) := by
  obtain ⟨-, -, -, -, -, hi, lo⟩ := iki_block q h2 h1
  obtain ⟨-, hs⟩ := packed_wf (evenCode q) 6
  rw [Memory.toBytes, hs, List.eq_replicate_iff]
  refine ⟨by simp, fun x hx => ?_⟩
  obtain ⟨a, ha, rfl⟩ := List.mem_map.1 hx
  have ha := List.mem_range.1 ha
  obtain ⟨k, hk, hak⟩ := entry_covers a ha
  have := packed_read (evenCode q) _ hi lo 6 a k hk ha hak
  simpa [Memory.read, hs, ha] using this

/-- The compressed table has one size at every scale and under either flag order. -/
theorem packed_size (o : FlagOrder) (q : Nat) (h1 : 1 ≤ q) (h2 : q < 64) :
    (ikiPackedTable o (packed (evenCode q) 6)).length = 4 := by
  have h : ∀ o : FlagOrder, ∀ q, q < 64 →
      (let z := lzComp o (List.replicate 12 (BitVec.ofNat 8 (4 * q)))
       (if z.length % 2 = 1 then z ++ [0#8] else z).length) = 4 := by
    intro o; cases o <;> decide +kernel
  rw [ikiPackedTable, packed_bytes q h1 h2]
  exact h o q h2

/-- One block of the frame, in the registers of an Iki encode. -/
theorem iki_block_encoded (q b : Nat) (st : EncSt) (h1 : 1 ≤ q) (h2 : q < 64) (hf : st.enc.format = .iki) :
    encodeBlock 0 b (ikiBlock q) st =
      (⟨{ st.enc with
          table := ikiPack (6 * st.enc.mbCount) st.enc.table b (evenCode q)
          codes := st.enc.codes + (ikiBlock q).length, blocks := st.enc.blocks + 1 },
        { st.wr with bits := st.wr.bits ++ ikiBits q }⟩, none) := by
  obtain ⟨-, -, -, -, hh, -, -⟩ := iki_block q h2 h1
  rw [encodeBlock_std 0 b _ st (by rw [hf]; decide)]
  simp only [finishBlock, encodeDc, hf, encodeDcIki, EncSt.put, writeBits, hh, dialectOf, ikiBits]
  simp

/-- The same with the checks of its answer. -/
theorem iki_one (q b : Nat) (st : EncSt) (h1 : 1 ≤ q) (h2 : q < 64) (hb : b < 6) (hf : st.enc.format = .iki)
    (hq : st.enc.mbQ = [scaleReg q]) :
    encodeOne ikiSource 0 b st =
      (⟨{ st.enc with
          table := ikiPack (6 * st.enc.mbCount) st.enc.table b (evenCode q)
          codes := st.enc.codes + (ikiBlock q).length, blocks := st.enc.blocks + 1 },
        { st.wr with bits := st.wr.bits ++ ikiBits q }⟩, none) := by
  obtain ⟨hs, hw, ht, hr, -, -, -⟩ := iki_block q h2 h1
  have hscale : targetScale st.enc 0 b = q := by simp [targetScale, hf, hq, hr]
  unfold encodeOne
  simp only [hscale, hs b hb, hw, ht, iki_block_encoded q b st h1 h2 hf]
  simp

/-- The body of the frame at scale q. -/
def ikiBody (q : Nat) : List Byte :=
  let b := ikiBits q
  finalBytes (b ++ b ++ b ++ b ++ b ++ b) .le16 (padAlign .iki)

/-- The Iki header's dimension fields hold at least one byte. -/
theorem iki_field_pos : ikiLayout.width.width ≠ 0 ∧ 1 ≤ ikiLayout.height.width := by
  have hl := ikiLayout_ok
  simp only [ikiLayoutOk, fieldsOk, Bool.and_eq_true, decide_eq_true_eq] at hl
  have := hl.1.2.1.1.1
  have := hl.1.2.2.1.1.1
  omega

/-- The attempt at that frame is a frame: a header whose size is the same at every scale, and the body. -/
theorem iki_attempt (j : EncJob) (q : Nat) (h1 : 1 ≤ q) (h2 : q < 64) (hf : j.fmt = .iki) (hm : j.mbCount = 1)
    (hq : j.mbQ = [q]) (hw : j.width = 1) (hh : j.height = 16) (hs : j.source = ikiSource)
    (ha : j.align = padAlign .iki) :
    ∃ bytes, attempt j = .frame bytes ∧ bytes.length = ikiBsOffset 4 + (ikiBody q).length := by
  obtain ⟨fmt, mbCount, qFrame, qLuma, qChroma, mbQ, width, height, source, align, order, count⟩ := j
  simp only at hf hm hq hw hh hs ha
  subst hf hm hq hw hh hs ha
  have hl := ikiLayout_ok
  simp only [ikiLayoutOk, fieldsOk, Bool.and_eq_true, decide_eq_true_eq] at hl
  have wide : ∀ w, 1 ≤ w → 256 ≤ 256 ^ w := fun w hw => by
    calc 256 = 256 ^ 1 := rfl
      _ ≤ 256 ^ w := Nat.pow_le_pow_right (by decide) hw
  have hw := wide _ hl.1.2.1.1.1
  have hh := wide _ hl.1.2.2.1.1.1
  have hc := wide _ hl.1.2.2.2.1.1.1
  have hlegal : jobLegal ⟨.iki, 1, qFrame, qLuma, qChroma, [q], 1, 16, ikiSource, padAlign .iki, order, count⟩ = true := by
    simp [jobLegal, jobScalesLegal, ikiJobLegal, legalScale, ikiMbc, ikiDimensionOk, fieldHolds]
    omega
  have hblocks : blockOrder 1 = [(0, 0), (0, 1), (0, 2), (0, 3), (0, 4), (0, 5)] := rfl
  have hs := packed_size order q h1 h2
  simp only [packed, Memory.ofBytes] at hs
  simp only [attempt, encodeFrame, hlegal, Bool.not_true, Bool.false_eq_true, if_false, hblocks, encodeBlocks]
  simp only [iki_one q _ _ h1 h2, encStart, writerAt, List.map_cons, List.map_nil, isStr, if_true,
    Nat.reduceLT]
  simp only [finishFrame, assembles, EncSt.put, writeBits, padTail, fieldHolds, Option.getD_none, List.append_nil,
    List.nil_append, Memory.ofBytes, hs]
  have hif : (Format.iki != Format.iki || decide (4 < 256 ^ ikiLayout.csize.width)) = true := by simp; omega
  rw [if_pos hif]
  refine ⟨_, rfl, ?_⟩
  simp only [buildFrame, buildIki, List.length_append, List.length_map, List.length_range, Nat.mul_one, hs]
  rfl

/-- The body at scale 1 is more than two bytes longer than at scale 2. -/
theorem ikiBody_longer : (ikiBody 2).length + 2 ≤ (ikiBody 1).length := by
  unfold ikiBody
  cases h : padAlign .iki with
  | one => exact absurd h (padAlign_le16 .iki rfl)
  | two => decide +kernel
  | four => decide +kernel

/-- A frame is longer than its LZSS data, which is not empty. -/
theorem iki_frame_pos (q : Nat) : 0 < ikiBsOffset 4 + (ikiBody q).length := by
  have : 0 + 4 ≤ ikiBsOffset 4 := by unfold ikiBsOffset; omega
  omega

/-- The size of the frame at scale q. -/
def ikiSize (q : Nat) : Nat := ikiBsOffset 4 + (ikiBody q).length

/-- The attempt of phase 1 at scale q. -/
theorem iki_single (budget m q : Nat) (h1 : 1 ≤ q) (h2 : q < 64) :
    ∃ bytes, attempt (singleJob .iki (ikiOps budget m) q) = .frame bytes ∧ bytes.length = ikiSize q :=
  iki_attempt _ q h1 h2 rfl rfl rfl rfl rfl rfl rfl

/-- The same under phase 2's job. -/
theorem iki_list (budget m q : Nat) (h1 : 1 ≤ q) (h2 : q < 64) :
    ∃ bytes, attempt (ikiJob (ikiOps budget m) [q]) = .frame bytes ∧ bytes.length = ikiSize q :=
  iki_attempt _ q h1 h2 rfl rfl rfl rfl rfl rfl rfl

/-- The table of the frame fits every compressed-size field. -/
theorem iki_table_fits (budget q : Nat) (h1 : 1 ≤ q) (h2 : q < 64) : tableFits .iki (ikiOps budget q) := by
  intro _
  have hl := ikiLayout_ok
  simp only [ikiLayoutOk, fieldsOk, Bool.and_eq_true, decide_eq_true_eq] at hl
  have hc : 256 ^ 1 ≤ 256 ^ ikiLayout.csize.width := Nat.pow_le_pow_right (by decide) hl.1.2.2.2.1.1.1
  have hs := packed_size Config.lzssFlagOrder q h1 h2
  obtain ⟨ha, -⟩ := iki_block q h2 h1
  simp only [packed, Memory.ofBytes] at hs
  have hblocks : blockOrder 1 = [(0, 0), (0, 1), (0, 2), (0, 3), (0, 4), (0, 5)] := rfl
  simp only [blocksEncoded, ikiOps, hblocks, List.foldl_cons, List.foldl_nil, askedScale, List.getD_cons_zero,
    ha _ (show 0 < 6 by decide), ha _ (show 1 < 6 by decide), ha _ (show 2 < 6 by decide),
    ha _ (show 3 < 6 by decide), ha _ (show 4 < 6 by decide), ha _ (show 5 < 6 by decide)]
  simp only [iki_block_encoded q _ _ h1 h2, encStart, frameJob, if_true, Memory.ofBytes, Nat.mul_one, hs]
  omega

/-- A source that answers the first six questions of a one-macroblock frame, at scale 63. -/
theorem good_zero_source (f : Format) (q : Nat) (o : Operands) (hq : ∀ b, b < 6 → askedScale f o 0 b = q)
    (hs : ∀ b, b < 6 → askSource o.source 0 b q = [mdec q 0, eod]) (hw : wellFormedBlock [mdec q 0, eod] = true)
    (ht : mdecTop (mdec q 0) = q) (hm : o.mbCount = 1) (mb b : Nat) (h1 : mb < o.mbCount) (h2 : b < 6) :
    goodAnswer f (askedScale f o mb b) (askSource o.source mb b (askedScale f o mb b)) := by
  obtain rfl : mb = 0 := by omega
  rw [hq b h2, hs b h2]
  exact ⟨hw, ht, fun _ c hc => by simp [acCodes] at hc⟩

theorem witness_EncFrameCompletes :
    (Format.ofCode 1 = some .strv2 ∧ legalEncode .strv2 { mbCount := 1, qscale := 63, source := zeroSource [63] } ∧
      ∀ mb b, mb < 1 → b < 6 →
        goodAnswer .strv2 63 (askSource (zeroSource [63]) mb b 63)) ∧
      (Format.ofCode 3 = some .iki ∧
        legalEncode .iki (ikiOps 0 63) ∧ tableFits .iki (ikiOps 0 63) ∧
        ∀ mb b, mb < 1 → b < 6 → goodAnswer .iki ([63].getD mb 0) (askSource ikiSource mb b ([63].getD mb 0))) ∧
      (Format.ofCode 4 = some .lain ∧
        legalEncode .lain { mbCount := 1, qscaleLuma := 63, qscaleChroma := 63, source := zeroSource [63] } ∧
        ∀ mb b, mb < 1 → b < 6 →
          goodAnswer .lain (if 2 ≤ b then 63 else 63)
            (askSource (zeroSource [63]) mb b (if 2 ≤ b then 63 else 63))) := by
  have h63 : ∀ b, b < 6 → askSource (zeroSource [63]) 0 b 63 = [mdec 63 0, eod] := by decide +kernel
  refine ⟨⟨rfl, ⟨by decide, by decide⟩, ?_⟩, ⟨rfl, ⟨by decide, rfl, rfl, ?_, ?_⟩, iki_table_fits 0 63 (by decide) (by decide), ?_⟩,
    rfl, ⟨by decide, by decide, by decide, by decide⟩, ?_⟩
  · exact fun mb b h1 h2 => good_zero_source .strv2 63 { mbCount := 1, qscale := 63, source := zeroSource [63] }
      (fun _ _ => rfl) h63 (by decide +kernel) (by decide +kernel) rfl mb b h1 h2
  · exact ⟨Nat.zero_lt_one, Nat.one_lt_pow (iki_field_pos.1) (by decide)⟩
  · exact ⟨by decide, lt_of_lt_of_le (by decide) (Nat.pow_le_pow_right (by decide) iki_field_pos.2 : 256 ^ 1 ≤ _)⟩
  · intro mb b hm hb
    obtain rfl : mb = 0 := by omega
    obtain ⟨hs, hw, ht, -⟩ := iki_block 63 (by decide) (by decide)
    rw [List.getD_cons_zero, hs b hb]
    exact ⟨hw, ht, fun h => nomatch h⟩
  · intro mb b hm hb
    exact good_zero_source .lain 63 { mbCount := 1, qscaleLuma := 63, qscaleChroma := 63, source := zeroSource [63] }
      (fun b _ => by simp [askedScale]) h63 (by decide +kernel) (by decide +kernel) rfl mb b hm hb

/-- No Lain code means a level beyond ±255, whatever the open table (30_encoding.md R90). -/
theorem no_lain_code (run : Nat) (level : Int) (h : 255 < level) : encodeLookup .lain run level = none := by
  cases hf : encodeLookup .lain run level with
  | none => rfl
  | some e =>
    obtain ⟨hm, hl⟩ := encodeLookup_some .lain run level e hf
    obtain ⟨c, hc, rfl⟩ := List.mem_map.1 hm
    have hall : catalog.all (fun e => decide (e.ordinal < 224)) = true := by decide +kernel
    have hk : c.ordinal < 224 := by simpa using List.all_eq_true.1 hall c hc
    have hok := Config.lainAcTable.legal
    simp only [assignmentOk, Bool.and_eq_true, List.all_map, List.all_eq_true, List.mem_range, Function.comp] at hok
    have := hok.1.1.2 c.ordinal hk
    simp only at hl
    simp [hl, legalMeaning] at this
    omega

/-- A Lain source with a level of 300 in its first block, at every chroma scale. -/
def hotSource : List Answer := (List.range 64).map fun q => ⟨0, 0, q, [mdec q 0, mdec 0 300, eod]⟩

/-- The operands of a Lain encode and search over it. -/
def hotOps : Operands := { mbCount := 1, qscaleLuma := 1, qscaleChroma := 1, source := hotSource }

theorem hot_block : ∀ q, q < 64 →
    askSource hotSource 0 0 q = [mdec q 0, mdec 0 300, eod] ∧ wellFormedBlock [mdec q 0, mdec 0 300, eod] = true ∧
      mdecTop (mdec q 0) = q ∧ (scaleReg q).toNat = q := by decide +kernel

/-- Refused formats and scales; a block that is none; a block of another scale; a level beyond Lain's. -/
theorem witness_EncFrameChecks :
    Format.ofCode 5 = none ∧ Format.ofCode 0 = some .strv1 ∧ ¬ legalEncode .strv1 { qscale := 0 } ∧
      ¬ legalEncode .strv1 { qscale := 64 } ∧ ¬ legalEncode .lain { qscaleLuma := 1, qscaleChroma := 64 } ∧
      ¬ legalEncode .iki {} ∧
      (legalEncode .strv1 { mbCount := 1, qscale := 1 } ∧ wellFormedBlock (askSource [] 0 0 1) = false ∧
        ∀ mb' b', b' < 6 → ¬ 6 * mb' + b' < 6 * 0 + 0) ∧
      (let src := ⟨0, 0, 1, [mdec 2 0, eod]⟩ :: zeroSource [1]
       wellFormedBlock (askSource src 0 0 1) = true ∧ mdecTop ((askSource src 0 0 1).headD 0) ≠ 1) ∧
      (legalEncode .lain hotOps ∧ acCodes (askSource hotSource 0 0 1) = [] ++ mdec 0 300 :: [] ∧
        wellFormedBlock (askSource hotSource 0 0 1) = true ∧ mdecTop ((askSource hotSource 0 0 1).headD 0) = 1 ∧
        encodeLookup .lain (mdecTop (mdec 0 300)) (mdecBottom (mdec 0 300)) = none ∧
        ¬ (-255 ≤ mdecBottom (mdec 0 300) ∧ mdecBottom (mdec 0 300) ≤ 255)) := by
  refine ⟨rfl, rfl, by simp [legalEncode], by simp [legalEncode], by simp [legalEncode], by simp [legalEncode],
    ⟨⟨by decide, by decide⟩, by decide, fun _ _ _ => by omega⟩, by decide +kernel, ⟨by decide, by decide, by decide,
      by decide⟩,
    by decide +kernel, by decide +kernel, by decide +kernel, no_lain_code _ _ ?_, by decide +kernel⟩
  decide +kernel

theorem witness_DcV3Differentials :
    (-255 ≤ (-255 : Int) ∧ (-255 : Int) ≤ 255 ∧ -255 ≤ (255 : Int) ∧ (255 : Int) ≤ 255) ∧
      (-512 ≤ (-512 : Int) ∧ (-512 : Int) ≤ 511 ∧ (-512 : Int) % 4 = 0) ∧ (-512 ≤ (510 : Int) ∧ (510 : Int) ≤ 510) ∧
      -512 ≤ (511 : Int) ∧ (511 : Int) ≤ 511 := by decide

theorem witness_LainLevels :
    lainLevelBits (-255) = some (toBits 16 0x8001) ∧ lainLevelBits 127 = some (toBits 8 127) ∧
      lainLevelBits 128 = some (toBits 16 0x0080) ∧ lainLevelBits 0 = some (toBits 16 0) ∧
      lainLevelBits (-256) = none ∧ (-256 : Int) < -255 := by decide +kernel

theorem witness_IkiTablePacks :
    (Memory.ofBytes [1, 2, 3, 4]).wf = true ∧ (Memory.ofBytes [1, 2, 3, 4]).size = 2 * 2 ∧ 1 < 2 ∧ 0 < 2 ∧
      (0 : Nat) ≠ 1 := by
  decide

/-- The attempt on a frame of no macroblocks is a frame, at every legal scale and whatever the open parameters. -/
theorem empty_frame (budget q : Nat) (h1 : 1 ≤ q) (h2 : q ≤ 63) :
    ∃ bytes, attempt (singleJob .strv2 { budget := budget } q) = .frame bytes ∧ 0 < bytes.length := by
  simp [attempt, encodeFrame, jobLegal, jobScalesLegal, singleJob, frameJob, legalScale, h1, h2, blockOrder,
    encodeBlocks, assembles, finishFrame, buildFrame, buildStr, u16le]

/-- Formats and scales that are refused; an attempt that raises; the first scale fits a large enough budget; scale 63 fits as the one scale of a partial search; nothing fits a
budget of 0. -/
theorem witness_SingleSearch :
    Format.ofCode 1 = some .strv2 ∧ Format.strv2 ≠ .lain ∧ Format.ofCode 5 = none ∧ Format.ofCode 4 = some .lain ∧
      ¬ (1 ≤ 0 ∧ 0 ≤ 63) ∧ ¬ (1 ≤ 64 ∧ 64 ≤ 63) ∧
      attempt (singleJob .strv2 { mbCount := 1 } 1) = .raised ⟨6#4, 6⟩ ∧ (6#4 : BitVec 4) ≠ 4#4 ∧
      (∃ budget bytes, fitsAs budget (singleJob .strv2 { budget := budget } 1) bytes) ∧
      (∃ budget bytes, fitsAs budget (singleJob .strv2 { budget := budget, qOrig := 63 } 63) bytes) ∧
      ∀ q, 1 ≤ q → q ≤ 63 → passedOver 0 (singleJob .strv2 {} q) := by
  refine ⟨rfl, by decide, rfl, rfl, by decide, by decide, by decide +kernel, by decide, ?_, ?_, fun q h1 h2 => ?_⟩
  · obtain ⟨bytes, h, _⟩ := empty_frame 0 1 (by decide) (by decide)
    exact ⟨bytes.length, bytes, h, le_rfl⟩
  · obtain ⟨bytes, h, _⟩ := empty_frame 0 63 (by decide) (by decide)
    exact ⟨bytes.length, bytes, h, le_rfl⟩
  · obtain ⟨bytes, h, hb⟩ := empty_frame 0 q h1 h2
    exact .inl ⟨bytes, h, hb⟩

/-- A single-scale search whose first attempt is a frame within the budget finds it. -/
theorem first_fits (f : Format) (s : State) (bytes : List Byte)
    (h : (encodeFrame (singleJob f s.host.operands 1) (encSt s)).2 = .frame bytes)
    (hb : bytes.length ≤ s.host.operands.budget) : (searchFrom 1 f s).2 = .found bytes 1 := by
  rw [searchFrom, show scalesFrom 1 = 1 :: scalesFrom 2 from rfl]
  simp [singleLoop, h, judge, hb]

/-- A single-scale search over attempts that are all passed over ends without a fit. -/
theorem none_fits (job : Nat → EncJob) (budget : Nat) (qs : List Nat) (x : SearchSt)
    (h : ∀ q ∈ qs, ∀ st : EncSt, ∃ bytes, (encodeFrame (job q) st).2 = .frame bytes ∧ budget < bytes.length) :
    (singleLoop job budget qs x).2 = .noFit := by
  induction qs generalizing x with
  | nil => rfl
  | cons q qs ih =>
    obtain ⟨bytes, hf, hb⟩ := h q (by simp) x.st
    simp only [singleLoop, hf, judge, Nat.not_le.2 hb, if_false]
    exact ih _ fun q' hq' => h q' (by simp [hq'])

/-- An attempt gives the same result whatever the registers hold. -/
theorem attempt_eq (j : EncJob) (st : EncSt) (r : EncResult) (h : attempt j = r) : (encodeFrame j st).2 = r :=
  (encodeFrame_result j st _).trans h

theorem witness_SearchMonotone :
    (∃ budget t bytes q, exec (.srchSingle 1) (withOps { budget := budget }) = .next t ∧ t.host.reply = .found bytes q ∧
      budget ≤ budget) ∧
    ∃ t, exec (.srchSingle 1) (withOps { budget := 0 }) = .next t ∧ t.host.reply = .noFit := by
  constructor
  · obtain ⟨bytes, h, _⟩ := empty_frame 0 1 (by decide) (by decide)
    have hf := first_fits .strv2 (withOps { budget := bytes.length }) bytes (attempt_eq _ _ _ h) le_rfl
    refine ⟨bytes.length, endSearch _ (searchFrom 1 .strv2 _), bytes, 1, rfl, ?_, le_rfl⟩
    rw [endSearch, hf]
    rfl
  · have hn : (searchFrom 1 .strv2 (withOps { budget := 0 })).2 = .noFit := by
      refine none_fits _ _ _ _ fun q hq st => ?_
      have hr : ∀ q ∈ scalesFrom 1, 1 ≤ q ∧ q ≤ 63 := by decide
      obtain ⟨bytes, h, hb⟩ := empty_frame 0 q (hr q hq).1 (hr q hq).2
      exact ⟨bytes, attempt_eq _ _ _ h, hb⟩
    refine ⟨endSearch _ (searchFrom 1 .strv2 _), rfl, ?_⟩
    rw [endSearch, hn]
    rfl

/-- The attempt over the hot source raises TooMuchEnergy(300) at every legal pair of scales. -/
theorem hot_attempt (l c : Nat) (hl : 1 ≤ l ∧ l ≤ 63) (hc : 1 ≤ c ∧ c ≤ 63) :
    attempt (lainJob hotOps l c) = .raised (excTooMuchEnergy 300) := by
  obtain ⟨hs, hw, ht, hq⟩ := hot_block c (by omega)
  have hcode : encodeLookup .lain (mdecTop (mdec 0 300)) (mdecBottom (mdec 0 300)) = none :=
    no_lain_code _ _ (by decide +kernel)
  have hlev : mdecBottom (mdec 0 300) = 300 := by decide +kernel
  have hone : blockOrder 1 = (0, 0) :: [(0, 1), (0, 2), (0, 3), (0, 4), (0, 5)] := rfl
  rw [hlev] at hcode
  simp [attempt, encodeFrame, jobLegal, jobScalesLegal, lainJob, frameJob, hotOps, legalScale, hl, hc, hone,
    encodeBlocks,
    encodeOne, targetScale, encStart, isLuma, hq, hs, hw, ht, encodeBlock, acCodes, encodeAcs, encodeDc, EncSt.put,
      acBits,
    dialectOf, hlev, hcode, lainLevelBits]

/-- Every pair of the Lain search is a pair of legal scales. -/
theorem lainPair_legal (n : Nat) (p : Nat × Nat) (h : lainPair n = some p) :
    (1 ≤ p.1 ∧ p.1 ≤ 63) ∧ 1 ≤ p.2 ∧ p.2 ≤ 63 := by
  induction n generalizing p with
  | zero => cases h; decide
  | succ n ih =>
    rw [lainPair] at h
    cases hp : lainPair n with
    | none => simp [hp] at h
    | some r =>
      have := ih r hp
      simp only [hp, Option.bind_some, lainScaleStep] at h
      split at h
      · cases h; simp only; omega
      · split at h
        · cases h; simp only; omega
        · cases h

/-- The attempt on a Lain frame of no macroblocks is a frame of at least the header. -/
theorem empty_lain_frame (budget l c : Nat) (hl : 1 ≤ l ∧ l ≤ 63) (hc : 1 ≤ c ∧ c ≤ 63) :
    ∃ bytes, attempt (lainJob { budget := budget } l c) = .frame bytes ∧ 0 < bytes.length := by
  have hok := lainLayout_ok
  simp only [lainLayoutOk, fieldsOk, Bool.and_eq_true, decide_eq_true_eq] at hok
  simp [attempt, encodeFrame, jobLegal, jobScalesLegal, lainJob, frameJob, legalScale, hl, hc, blockOrder, encodeBlocks,
    assembles, finishFrame, buildFrame, buildLain]
  omega

/-- An attempt raises; or the first pair fits; or nothing fits a budget of 0; or every pair is too much energy. -/
theorem witness_LainSearch :
    attempt (lainJob { mbCount := 1 } 1 1) = .raised ⟨6#4, 6⟩ ∧
    (lainPair 0 = some (1, 1) ∧ (∀ m, ¬ m < 0) ∧ ∃ budget bytes, fitsAs budget (lainJob { budget :=
      budget } 1 1) bytes) ∧
      ((∀ m p, lainPair m = some p → passedOver 0 (lainJob {} p.1 p.2)) ∧
        ∃ bytes, attempt (lainJob {} 63 63) = .frame bytes) ∧
      (∀ m p, lainPair m = some p → passedOver 0 (lainJob hotOps p.1 p.2)) ∧
        attempt (lainJob hotOps 63 63) = .raised ⟨4#4, 300⟩ := by
  refine ⟨by decide +kernel, ⟨rfl, by omega, ?_⟩, ⟨fun m p h => ?_, ?_⟩, fun m p h => ?_, ?_⟩
  · obtain ⟨bytes, h, _⟩ := empty_lain_frame 0 1 1 (by decide) (by decide)
    exact ⟨bytes.length, bytes, h, le_rfl⟩
  · obtain ⟨bytes, hf, hb⟩ := empty_lain_frame 0 p.1 p.2 (lainPair_legal m p h).1 (lainPair_legal m p h).2
    exact .inl ⟨bytes, hf, hb⟩
  · obtain ⟨bytes, hf, _⟩ := empty_lain_frame 0 63 63 (by decide) (by decide)
    exact ⟨bytes, hf⟩
  · exact .inr ⟨300, hot_attempt p.1 p.2 (lainPair_legal m p h).1 (lainPair_legal m p h).2⟩
  · exact hot_attempt 63 63 (by decide) (by decide)

/-- An attempt that is a frame is what ENC_FRAME replies. -/
theorem enc_replies (fmt : BitVec 3) (f : Format) (o : Operands) (bytes : List Byte) (hf : Format.ofCode fmt = some f)
    (h : attempt (frameJob f o) = .frame bytes) :
    ∃ t, exec (.encFrame fmt) (withOps o) = .next t ∧ t.host.reply = .frame bytes bytes.length := by
  have hj : jobLegal (frameJob f o) = true := by
    by_contra hn
    simp [attempt, encodeFrame, Bool.eq_false_of_not_eq_true hn] at h
  have hr := attempt_eq _ (encSt (withOps o)) _ h
  have ho : (withOps o).host.operands = o := rfl
  simp only [exec, execEncFrame, hf, ho, hj]
  cases he : encodeFrame (frameJob f o) (encSt (withOps o)) with
  | mk st r =>
    rw [he] at hr
    simp only at hr
    subst hr
    exact ⟨_, rfl, rfl⟩

/-- A frame of each kind is returned. -/
theorem witness_FrameValidates :
    (∃ t bytes, Format.ofCode 1 = some .strv2 ∧ exec (.encFrame 1) (withOps { qscale := 1 }) = .next t ∧
      t.host.reply = .frame bytes bytes.length) ∧
    (∃ t bytes, Format.ofCode 3 = some .iki ∧ exec (.encFrame 3) (withOps (ikiOps 0 1)) = .next t ∧
      t.host.reply = .frame bytes bytes.length) ∧
    ∃ t bytes, Format.ofCode 4 = some .lain ∧
      exec (.encFrame 4) (withOps { qscaleLuma := 1, qscaleChroma := 1 }) = .next t ∧
      t.host.reply = .frame bytes bytes.length := by
  refine ⟨?_, ?_, ?_⟩
  · obtain ⟨bytes, h, -⟩ := empty_frame 0 1 (by decide) (by decide)
    obtain ⟨t, h⟩ := enc_replies 1 .strv2 { qscale := 1 } bytes rfl h
    exact ⟨t, bytes, rfl, h⟩
  · obtain ⟨bytes, h, -⟩ := iki_attempt (frameJob .iki (ikiOps 0 1)) 1 (by decide) (by decide) rfl rfl rfl rfl rfl rfl rfl
    obtain ⟨t, h⟩ := enc_replies 3 .iki _ bytes rfl h
    exact ⟨t, bytes, rfl, h⟩
  · obtain ⟨bytes, h, -⟩ := empty_lain_frame 0 1 1 (by decide) (by decide)
    obtain ⟨t, h⟩ := enc_replies 4 .lain { qscaleLuma := 1, qscaleChroma := 1 } bytes rfl h
    exact ⟨t, bytes, rfl, h⟩
/-- The keys fit; at budget 0 every attempt is too big; operands that no attempt takes; scale 1 fits, without and with
slack left; and scale 2 is the first that fits, with slack, its one lowering too big. -/
theorem witness_IkiSearch :
    (¬ (({ mbCount := 1 } : Operands).energy.length = 1)) ∧
    ((ikiOps 0 1).energy.length = (ikiOps 0 1).mbCount ∧ (ikiOps 0 1).distance.length = (ikiOps 0 1).mbCount ∧
      ∀ q, 1 ≤ q → q < 64 → passedOver 0 (singleJob .iki (ikiOps 0 1) q)) ∧
    attempt (singleJob .iki {} 1) = .raised ⟨6#4, 4⟩ ∧
    (let o := ikiOps (ikiSize 1) 1
     (∃ best, fitsAs o.budget (singleJob .iki o 1) best) ∧
      ∃ bytes, attempt (ikiJob o (lowered 1 [0] 1 0)) = .frame bytes) ∧
    (let o := ikiOps (ikiSize 2 + 1) 2
     passedOver o.budget (singleJob .iki o 1) ∧
      (∃ best, fitsAs o.budget (singleJob .iki o 2) best ∧ best.length < o.budget) ∧
      mbOrder o.energy o.distance 1 = [0] ∧ (∃ bytes, attempt (ikiJob o (lowered 2 [0] 1 0)) = .frame bytes) ∧
      passedOver o.budget (ikiJob o (lowered 2 [0] 1 1))) := by
  have hl : lowered 1 [0] 1 0 = [1] ∧ lowered 2 [0] 1 0 = [2] ∧ lowered 2 [0] 1 1 = [1] := by decide
  have hgt : ikiSize 2 + 1 < ikiSize 1 := by
    have := ikiBody_longer
    unfold ikiSize
    omega
  have big : ∀ m o r, (∃ bytes, attempt o = .frame bytes ∧ bytes.length = ikiSize r) → m < ikiSize r → passedOver m o :=
    fun m o r ⟨bytes, h, hb⟩ hm => .inl ⟨bytes, h, by omega⟩
  have small : ∀ m o r, (∃ bytes, attempt o = .frame bytes ∧ bytes.length = ikiSize r) → ikiSize r ≤ m →
      ∃ bytes, fitsAs m o bytes ∧ bytes.length = ikiSize r :=
    fun m o r ⟨bytes, h, hb⟩ hm => ⟨bytes, ⟨h, by omega⟩, hb⟩
  rw [hl.1, hl.2.1, hl.2.2]
  refine ⟨by decide, ⟨rfl, rfl, fun q h1 h2 => ?_⟩, by decide +kernel, ⟨?_, ?_⟩, ?_, ?_, rfl, ?_, ?_⟩
  · exact big _ _ q (iki_single 0 1 q h1 h2) (iki_frame_pos q)
  · obtain ⟨b, h, -⟩ := small _ _ 1 (iki_single (ikiSize 1) 1 1 (by decide) (by decide)) le_rfl
    exact ⟨b, h⟩
  · obtain ⟨b, h, -⟩ := iki_list (ikiSize 1) 1 1 (by decide) (by decide)
    exact ⟨b, h⟩
  · exact big _ _ 1 (iki_single (ikiSize 2 + 1) 2 1 (by decide) (by decide)) hgt
  · obtain ⟨b, h, hb⟩ := small _ _ 2 (iki_single (ikiSize 2 + 1) 2 2 (by decide) (by decide)) (Nat.le_succ _)
    exact ⟨b, h, hb ▸ Nat.lt_succ_self _⟩
  · obtain ⟨b, h, -⟩ := iki_list (ikiSize 2 + 1) 2 2 (by decide) (by decide)
    exact ⟨b, h⟩
  · exact big _ _ 1 (iki_list (ikiSize 2 + 1) 2 1 (by decide) (by decide)) hgt

/-- An Iki search that finds its frame at scale 1 reports it. -/
theorem witness_IkiSearch_found :
    ∃ bytes t, exec .srchIki (withOps (ikiOps (ikiSize 1) 1)) = .next t ∧ t.host.reply = .foundIki bytes [1] := by
  obtain ⟨bytes, h, hb⟩ := iki_single (ikiSize 1) 1 1 (by decide) (by decide)
  have ho : (withOps (ikiOps (ikiSize 1) 1)).host.operands = ikiOps (ikiSize 1) 1 := rfl
  have hf := first_fits .iki (withOps (ikiOps (ikiSize 1) 1)) bytes (attempt_eq _ _ _ h) (le_of_eq hb)
  have hi : (ikiSearch (ikiOps (ikiSize 1) 1) (searchFrom 1 .iki (withOps (ikiOps (ikiSize 1) 1)))).2 =
      .found bytes [1] := by
    have hn : ¬ bytes.length < (ikiOps (ikiSize 1) 1).budget := by rw [hb]; exact Nat.lt_irrefl _
    unfold ikiSearch
    rw [hf]
    simp only [if_neg hn]
    rfl
  have hne : ¬ ((ikiOps (ikiSize 1) 1).energy.length ≠ (ikiOps (ikiSize 1) 1).mbCount ∨
      (ikiOps (ikiSize 1) 1).distance.length ≠ (ikiOps (ikiSize 1) 1).mbCount) := by simp [ikiOps]
  refine ⟨bytes, ?_⟩
  simp only [exec, execSrchIki, ho, if_neg hne, hi]
  exact ⟨_, rfl, rfl⟩

theorem witness_LzRoundTrip (packed : List Byte) :
    (withOps { data := [7] }).host.operands.data = [7] ∧ (withOps { src := packed, dsize := 1 }).host.operands.src =
      packed ∧
      (withOps { src := packed, dsize := 1 }).host.operands.start = 0 ∧
      (withOps { src := packed, dsize := 1 }).host.operands.dsize = [(7 : Byte)].length := ⟨rfl, rfl, rfl, rfl⟩

/-- Each malformation, under either flag order; a start past the source and one at its end. -/
theorem witness_LzBounds :
    (withOps { src := [1], start := 2 }).host.operands.src.length < 2 ∧ 1 ≤ ([1] : List Byte).length ∧
      ∀ o : FlagOrder, (lzDecomp o (([1] : List Byte).drop 1) 1).2 = some .truncated ∧
        (lzDecomp o [0xFF, 0, 0] 3).2 = some .badDistance ∧ (lzDecomp o [0x42, 7, 0, 0] 2).2 = some .overflow ∧
        (lzDecomp o [] 0).2 = none := by
  refine ⟨by decide, by decide, fun o => ?_⟩
  cases o <;> decide +kernel

/-- Tokens that end exactly at the source's end and at the expected size. -/
theorem witness_LzTokens :
    (unpacking [1, 2, 3] [9] 4).lz.dst.size < 4 ∧ (unpacking [1, 2, 3] [9] 4).lz.sp < ([9] : List Byte).length ∧
      ((unpacking [1, 2, 3] [0, 2] 6).lz.sp + 2 ≤ ([0, 2] : List Byte).length ∧
        (2 : BitVec 7).toNat + 1 ≤ (unpacking [1, 2, 3] [0, 2] 6).lz.dst.size ∧
        (unpacking [1, 2, 3] [0, 2] 6).lz.dst.size + ((0 : BitVec 8).toNat + 3) ≤ 6) ∧
      (unpacking [1, 2, 3] [0, 0x80, 2] 6).lz.sp + 3 ≤ ([0, 0x80, 2] : List Byte).length ∧
      (2 : BitVec 15).toNat + 1 ≤ (unpacking [1, 2, 3] [0, 0x80, 2] 6).lz.dst.size := by decide +kernel

/-- A decode inside its first block, a DEC_NEXT issued. -/
def running : State := (decoding .strv2 1 .midBlock 0 (toBits 2 2)).issue 0x5100

/-- The same, one code emitted: the count of codes is at least that of the blocks begun. -/
def sound : State := running.withDec { running.dec with ctxCodes := 1 }

theorem witness_StepKeepsSpacesAndReader : (∃ t, step sound = .next t) ∧ SpacesOk sound ∧ ReaderOk sound := by
  refine ⟨?_, ⟨by decide +kernel, by decide +kernel, by decide +kernel, by decide +kernel, by decide +kernel,
    by decide +kernel, by decide +kernel⟩, readerOk_of_fits (by decide +kernel)⟩
  obtain ⟨t, h, _⟩ := exists_next (r := step sound) (fun t => t.dec.state = .blockStart) (by decide +kernel)
  exact ⟨t, h⟩

theorem witness_StepKeepsDecoder : DecoderOk sound ∧ ErrorsOk sound :=
  ⟨⟨by decide +kernel, by decide +kernel, by decide +kernel, by decide +kernel,
    show sound.dec.ctxBlocks < 6 * sound.cfg.mbCount by decide +kernel, by decide +kernel, by decide +kernel,
    by decide +kernel, by decide +kernel, by decide +kernel⟩, ⟨by decide +kernel, by decide +kernel, by decide +kernel⟩⟩

theorem witness_StepKeepsEncoderSide : WriterOk sound ∧ EncoderOk sound ∧ SearcherOk sound ∧ LzOk sound :=
  ⟨fun _ => by decide, ⟨⟨by decide, by decide, by decide⟩, ⟨by decide, by decide, by decide⟩, ⟨by decide, by decide,
    by decide⟩,
    by decide, by decide, by decide⟩, ⟨by decide, by decide, by decide, fun _ h => nomatch h⟩,
      show sound.lz.flagI ≤ 8 by decide⟩

end Sys2Proof.Tests
end

section
/-! PROOFS. 00_scope.md: the step takes the next command of the host's stream (O9). A command word is written out again
by the encoder, so the word that State.withFetchWord places is the word the step decodes. -/

namespace Sys2Proof.Machine

/-! ### Immediates: an accepted immediate is made of its named field alone (30_encoding.md R103, R107) -/

theorem imm_eq_zero_of_unnamed {imm : BitVec 8} (h : imm &&& ~~~0x00#8 = 0#8) : 0#8 = imm := by
  revert imm; decide

theorem imm_eq_count_of_unnamed {imm : BitVec 8} (h : imm &&& ~~~0x1f#8 = 0#8) :
    (imm.extractLsb' 0 5).setWidth 8 = imm := by
  revert imm; decide

theorem imm_eq_format_of_unnamed {imm : BitVec 8} (h : imm &&& ~~~0x07#8 = 0#8) :
    (imm.extractLsb' 0 3).setWidth 8 = imm := by
  revert imm; decide

theorem imm_eq_policy_of_unnamed {imm : BitVec 8} (h : imm &&& ~~~0x01#8 = 0#8) :
    (Policy.ofBit (imm.getLsbD 0)).bits 8 = imm := by
  revert imm; decide

theorem imm_eq_dialect_of_unnamed {imm : BitVec 8} (h : imm &&& ~~~0x01#8 = 0#8) :
    (Dialect.ofBit (imm.getLsbD 0)).bits 8 = imm := by
  revert imm; decide

theorem imm_eq_align_policy_of_unnamed {imm : BitVec 8} (h : imm &&& ~~~0x07#8 = 0#8) :
    (0#5 ++ imm.extractLsb' 1 2) ++ (Policy.ofBit (imm.getLsbD 0)).bits 1 = imm := by
  revert imm; decide

/-! ### The encoder writes a decoded command back (30_encoding.md R103, R104) -/

/-- What is dispatched, if it is a command, is one the encoder writes with this op and this immediate. -/
def WritesBack (op imm : BitVec 8) (d : Dispatched) : Prop :=
  ∀ i, d = .run i → i.position = .command ∧ encode i = commandBits op imm

theorem writesBack_reject (op imm : BitVec 8) (why : DecodeError) : WritesBack op imm (.reject why) :=
  fun _ h => nomatch h

/-- One row of the opcode map: its command is written with the row's op and an immediate equal to the accepted one. -/
theorem writesBack_row {op imm op' free imm' : BitVec 8} {j : Instr} {d : Dispatched} (hpos : j.position = .command)
    (henc : encode j = commandBits op' imm') (himm : imm &&& ~~~free = 0#8 → imm' = imm) (hrest : WritesBack op imm d) :
    WritesBack op imm (if op = op' then named imm free j else d) := by
  intro i h
  split at h
  · next hop =>
    unfold named at h
    split at h
    · next hfree =>
      obtain rfl : j = i := Dispatched.run.inj h
      exact ⟨hpos, by rw [henc, hop, himm hfree]⟩
    · nomatch h
  · exact hrest i h

/-- The opcode map row by row, in the decoder's order. -/
theorem decodeCommand_writesBack (w : BitVec 16) :
    WritesBack (w.extractLsb' 8 8) (w.extractLsb' 0 8) (decodeCommand w) :=
  writesBack_row (j := .reset) rfl rfl imm_eq_zero_of_unnamed <|
  writesBack_row (j := .brInit _) rfl rfl imm_eq_policy_of_unnamed <|
  writesBack_row (j := .brReadu _) rfl rfl imm_eq_count_of_unnamed <|
  writesBack_row (j := .brReads _) rfl rfl imm_eq_count_of_unnamed <|
  writesBack_row (j := .brPeeku _) rfl rfl imm_eq_count_of_unnamed <|
  writesBack_row (j := .brPeeks _) rfl rfl imm_eq_count_of_unnamed <|
  writesBack_row (j := .brSkip _) rfl rfl imm_eq_count_of_unnamed <|
  writesBack_row (j := .brBitsread) rfl rfl imm_eq_zero_of_unnamed <|
  writesBack_row (j := .brBitsrem) rfl rfl imm_eq_zero_of_unnamed <|
  writesBack_row (j := .bwInit _ _) rfl rfl imm_eq_align_policy_of_unnamed <|
  writesBack_row (j := .bwWritev _) rfl rfl imm_eq_count_of_unnamed <|
  writesBack_row (j := .bwWritestr) rfl rfl imm_eq_zero_of_unnamed <|
  writesBack_row (j := .bwFinal) rfl rfl imm_eq_zero_of_unnamed <|
  writesBack_row (j := .ctDecode _) rfl rfl imm_eq_dialect_of_unnamed <|
  writesBack_row (j := .ctEncode _) rfl rfl imm_eq_dialect_of_unnamed <|
  writesBack_row (j := .hdrIdentify) rfl rfl imm_eq_zero_of_unnamed <|
  writesBack_row (j := .decStart _) rfl rfl imm_eq_format_of_unnamed <|
  writesBack_row (j := .decNext) rfl rfl imm_eq_zero_of_unnamed <|
  writesBack_row (j := .decStatus) rfl rfl imm_eq_zero_of_unnamed <|
  writesBack_row (j := .encFrame _) rfl rfl imm_eq_format_of_unnamed <|
  writesBack_row (j := .srchSingle _) rfl rfl imm_eq_format_of_unnamed <|
  writesBack_row (j := .srchPartial _) rfl rfl imm_eq_format_of_unnamed <|
  writesBack_row (j := .srchLain) rfl rfl imm_eq_zero_of_unnamed <|
  writesBack_row (j := .srchIki) rfl rfl imm_eq_zero_of_unnamed <|
  writesBack_row (j := .lzDecomp) rfl rfl imm_eq_zero_of_unnamed <|
  writesBack_row (j := .lzComp) rfl rfl imm_eq_zero_of_unnamed <|
  writesBack_reject _ _ _

theorem op_append_imm (w : BitVec 16) : w.extractLsb' 8 8 ++ w.extractLsb' 0 8 = w := by
  rw [BitVec.extractLsb'_append_extractLsb'_eq_extractLsb' (by rfl), BitVec.extractLsb'_eq_self]

/-- A decoded command stands at the command position, and the encoder writes the very word it was decoded from. -/
theorem decodeCommand_encode {w : BitVec 16} {i : Instr} (h : decodeCommand w = .run i) :
    i.position = .command ∧ encode i = toBits 16 w.toNat := by
  obtain ⟨hpos, henc⟩ := decodeCommand_writesBack w i h
  exact ⟨hpos, by rw [henc, commandBits, op_append_imm]⟩

/-! ### A command word put where the next step takes it (log 1) -/

/-- A word issued and taken again leaves the state as it was, since it carries the operands already on the port. -/
theorem fetch_issue (s : State) (w : BitVec 16) : (s.issue w).fetch = some (w, s) :=
  fetch_cons (s.issue w) _ _ rfl

theorem step_issue {w : BitVec 16} {i : Instr} (s : State) (h : decodeCommand w = .run i) :
    step (s.issue w) = exec i s := by
  simp [step, fetch_issue, h]

/-- A command is placed by issuing the word it was decoded from. -/
theorem placeInstr_command {w : BitVec 16} {i : Instr} (s : State) (h : decodeCommand w = .run i) :
    s.placeInstr i = s.issue w := by
  obtain ⟨hpos, henc⟩ := decodeCommand_encode h
  have hword : BitVec.ofNat 16 (ofBits (encode i)) = w := by
    rw [henc, ofBits_toBits, Nat.mod_eq_of_lt w.isLt, BitVec.ofNat_toNat, BitVec.setWidth_eq]
  simp [State.placeInstr, hpos, hword]

/-- The table tries a word as a command first (log 27). -/
theorem decodeTableWord_command {w : BitVec 16} {i : Instr} (h : decodeCommand w = .run i) :
    decodeTableWord 16 w.toNat = some i := by
  have hat : decodeAt .command (toBits 16 w.toNat ++ []) = .ok i [] := by
    simp only [decodeAt, withField_toBits, h]
  rw [List.append_nil] at hat
  simp [decodeTableWord, decodeWhole, hat]

theorem withFetchWord_command {w : BitVec 16} {i : Instr} (s : State) (h : decodeCommand w = .run i) :
    s.withFetchWord 16 w.toNat = s.issue w := by
  simp [State.withFetchWord, decodeTableWord_command h, placeInstr_command s h]

/-! ### The obligation -/

/-- Settles O9, from what a step can do (an empty stream, a head command) and from the encoder writing back the placed
word. -/
theorem stepTakesNextCommand : Obligations.StepTakesNextCommand := by
  intro s
  refine ⟨fun hnil => ?_, fun c rest i hpend hdec => ?_, fun w i hw hdec => ?_⟩
  · simp [step, (fetch_eq_none_iff s).2 hnil]
  · simp only [step, fetch_cons s c rest hpend, hdec]
    rfl
  · have hword : (BitVec.ofNat 16 w).toNat = w := by
      rw [BitVec.toNat_ofNat, Nat.mod_eq_of_lt hw]
    rw [← hword, withFetchWord_command s hdec, step_issue s hdec]

end Sys2Proof.Machine
end

section
/-! PROOFS. 40_bit_cursor.md R121, R128 to R133: what a taking of bits delivers is the opening of the stream still ahead,
so the reader's queries report it (O16). -/

namespace Sys2Proof.Machine

/-! ### The counters of a sound reader (10_state.md R28) -/

/-- A sound reader has read no more than the whole words of its span. -/
theorem bitsRead_le_availTotal {m : Memory} {r : ReaderRegs} (hr : CursorOk m r) : bitsRead r ≤ availTotal r := by
  obtain ⟨hstart, hoff, -, heven, -, -⟩ := hr
  simp only [bitsRead, availTotal]
  omega

/-- Taking one bit leaves one bit less. -/
theorem bitsRemaining_takeBit {m : Memory} {r r' : ReaderRegs} {b : Bool} (hr : CursorOk m r)
    (h : takeBit m r = some (b, r')) : bitsRemaining r = bitsRemaining r' + 1 := by
  obtain ⟨hr', hread⟩ := takeBit_ok m r r' b hr h
  obtain ⟨hstart, hstop, -, -⟩ := takeBit_keeps m r r' b h
  have hle := bitsRead_le_availTotal hr'
  have havail : availTotal r' = availTotal r := by rw [availTotal, availTotal, hstart, hstop]
  rw [bitsRemaining, bitsRemaining]
  omega

/-- A sound reader that gives no further bit has none remaining: less than a word is left of its span. -/
theorem bitsRemaining_eq_zero_of_takeBit_none {m : Memory} {r : ReaderRegs} (hr : CursorOk m r)
    (h : takeBit m r = none) : bitsRemaining r = 0 := by
  obtain ⟨hstart, hoff, hstop, heven, -, -⟩ := hr
  have hleft : r.bitsLeft = 0 := by
    by_contra h0
    simp [takeBit, h0] at h
  have hload : loadWord m r = none := by
    cases hl : loadWord m r with
    | none => rfl
    | some r' => simp [takeBit, hleft, hl] at h
  have hend : r.stop < r.offset + 2 := (loadWord_none m r hload).elim id fun hm => by omega
  simp only [bitsRemaining, availTotal, bitsRead, hleft]
  omega

/-! ### The stream ahead (40_bit_cursor.md R122) -/

/-- A sound reader delivers as many bits as are asked for, up to those remaining. -/
theorem streamBits_length {m : Memory} (n : Nat) {r : ReaderRegs} (hr : CursorOk m r) :
    (streamBits m n r).length = min n (bitsRemaining r) := by
  induction n generalizing r with
  | zero => simp [streamBits]
  | succ n ih =>
    cases hb : takeBit m r with
    | none => simp [streamBits, hb, bitsRemaining_eq_zero_of_takeBit_none hr hb]
    | some p =>
      obtain ⟨b, r'⟩ := p
      simp only [streamBits, hb, List.length_cons, ih (takeBit_ok m r r' b hr hb).1,
        bitsRemaining_takeBit hr hb]
      omega

/-- Asking for fewer bits gives the opening of the same stream. -/
theorem streamBits_take (m : Memory) (n k : Nat) (r : ReaderRegs) :
    (streamBits m n r).take k = streamBits m (min k n) r := by
  induction n generalizing k r with
  | zero => simp [streamBits]
  | succ n ih =>
    cases k with
    | zero => simp [streamBits]
    | succ k =>
      rw [Nat.add_min_add_right]
      cases hb : takeBit m r with
      | none => simp [streamBits, hb]
      | some p => simp [streamBits, hb, ih]

/-- The bits a taking of n sees are the first n of the stream ahead. -/
theorem remainingBits_take {m : Memory} (n : Nat) {r : ReaderRegs} (hr : CursorOk m r) :
    (remainingBits m r).take n = streamBits m n r := by
  have hlen := streamBits_length n hr
  have hself := streamBits_take m n (bitsRemaining r) r
  rw [List.take_of_length_le (by omega)] at hself
  rw [remainingBits, streamBits_take, hself, Nat.min_comm]

theorem ahead_length {s : State} (hs : ReaderOk s) : (ahead s).length = bitsRemaining s.rd := by
  rw [ahead, remainingBits, streamBits_length _ ((readerOk_iff s).1 hs), Nat.min_self]

/-! ### What taking bits delivers (40_bit_cursor.md R121) -/

/-- The loop of `TakeBits` appends the bits of the stream to the value it began with, and zeros for the missing ones. -/
theorem takeLoop_delivers (m : Memory) (n v k : Nat) (r : ReaderRegs) :
    (takeLoop m n v k r).got = k + (streamBits m n r).length ∧
      (takeLoop m n v k r).value =
        (v * 2 ^ (streamBits m n r).length + ofBits (streamBits m n r)) * 2 ^ (n - (streamBits m n r).length) := by
  induction n generalizing v k r with
  | zero => simp [takeLoop, streamBits]
  | succ n ih =>
    cases hb : takeBit m r with
    | none => simp [takeLoop, streamBits, hb]
    | some p =>
      obtain ⟨hgot, hvalue⟩ := ih (2 * v + p.1.toNat) (k + 1) p.2
      simp only [takeLoop, streamBits, hb, hgot, hvalue, List.length_cons, ofBits_cons, Nat.add_sub_add_right]
      refine ⟨by omega, ?_⟩
      ring

/-- A peek of a sound reader reports the zero-filled value of the bits ahead and how many of them are real
(40_bit_cursor.md R128). -/
theorem peekBits_eq {s : State} (n : Nat) (hs : ReaderOk s) :
    peekBits s.frame s.rd n =
      (ofBits ((ahead s).take n) * 2 ^ (n - min n (ahead s).length), min n (ahead s).length) := by
  have hr := (readerOk_iff s).1 hs
  obtain ⟨hgot, hvalue⟩ := takeLoop_delivers s.frame n 0 0 s.rd
  have hlen : (streamBits s.frame n s.rd).length = min n (ahead s).length := by
    rw [streamBits_length n hr, ahead_length hs]
  rw [hlen, Nat.zero_add] at hgot
  rw [hlen, Nat.zero_mul, Nat.zero_add, ← remainingBits_take n hr] at hvalue
  exact Prod.ext hvalue hgot

/-- A peek of a legal width answers and changes nothing, whatever the decoder does (40_bit_cursor.md R128). -/
theorem peekCommand_eq {s : State} {n : BitVec 5} (view : Nat → Int) (hs : ReaderOk s) (hn : n ≠ 0) :
    peekCommand n view s =
      .next (answered s (.peek
        (view (ofBits ((ahead s).take n.toNat) * 2 ^ (n.toNat - min n.toNat (ahead s).length)))
        (min n.toNat (ahead s).length))) := by
  have hwidth : legalWidth n = true := by simpa [legalWidth] using hn
  simp only [peekCommand, hwidth, peekBits_eq n.toNat hs]
  rfl

/-- Settles O16: the peeks report the opening of the stream ahead, and the two counters add up to the whole words of the
span. -/
theorem readerQueries : Obligations.ReaderQueries := by
  intro s hs
  have hr := (readerOk_iff s).1 hs
  have hle := bitsRead_le_availTotal hr
  have hloaded : bitsRead s.rd + s.rd.bitsLeft = 8 * (s.rd.offset - s.rd.start) := Nat.sub_add_cancel hr.loaded
  have hsum : bitsRead s.rd + bitsRemaining s.rd = availTotal s.rd := Nat.add_sub_cancel' hle
  exact ⟨fun n hn => ⟨peekCommand_eq _ hs hn, peekCommand_eq _ hs hn⟩,
    bitsRead s.rd, bitsRemaining s.rd, rfl, rfl, hloaded, hsum, (ahead_length hs).symm⟩

end Sys2Proof.Machine
end

section
/-! PROOFS. 43_decoder.md: what one step of the decode state machine can do, whether DEC_NEXT performs it or the token
itself (log 9). -/

namespace Sys2Proof.Machine

/-! ### The shape of a decode step -/

/-- Reader registers after some reads and skips, whether or not they came short. -/
inductive ReadsFrom (m : Memory) (r : ReaderRegs) : ReaderRegs → Prop
  | start : ReadsFrom m r r
  | read (n : Nat) {r' : ReaderRegs} (h : ReadsFrom m r r') : ReadsFrom m r (readBits m r' n).regs

/-- Reads and skips keep a sound reader sound (40_bit_cursor.md R139). -/
theorem ReadsFrom.cursorOk {m : Memory} {r r' : ReaderRegs} (h : ReadsFrom m r r') (hr : CursorOk m r) :
    CursorOk m r' := by
  induction h with
  | start => exact hr
  | read n _ ih => exact readBits_ok m _ n ih

/-- Everything a step of the state machine can do (43_decoder.md R188 to R208), one constructor for each way it ends. -/
inductive Decodes (s : State) : State → Prop
  /-- IDLE -/
  | notStarted (hst : s.dec.state = .idle) : Decodes s (decRaise s (excContract .notStarted))
  /-- DONE -/
  | ended (hst : s.dec.state = .done) : Decodes s s.endOfFrame
  /-- FAULT -/
  | faultsAgain (hst : s.dec.state = .fault) : Decodes s (decRaise s (stickyExc s.dec))
  /-- EndOfStream or ReadCorruption -/
  | faults {r : ReaderRegs} {e : Exc} (hst : s.dec.state = .blockStart ∨ s.dec.state = .midBlock)
      (hr : ReadsFrom s.frame s.rd r) (he : e.faultsDecoder = true) : Decodes s (decRaise (s.withRd r) e)
  /-- a block start that leaves the predictors alone -/
  | startsBlock {r : ReaderRegs} (code : MdecCode) (hst : s.dec.state = .blockStart)
      (hr : ReadsFrom s.frame s.rd r) : Decodes s (startBlock code (s.withRd r))
  /-- an STRv3 block start -/
  | startsPredicted {r : ReaderRegs} (code : MdecCode) (diff : Int) (hst : s.dec.state = .blockStart)
      (hr : ReadsFrom s.frame s.rd r)
      (hdc : -512 ≤ (predictor s.dec).toInt + 4 * diff ∧ (predictor s.dec).toInt + 4 * diff ≤ 511) :
      Decodes s (startBlock code
        ((s.withRd r).withDec (setPredictor s.dec (BitVec.ofInt 10 ((predictor s.dec).toInt + 4 * diff)))))
  /-- a (run, level) pair -/
  | placesCode {r : ReaderRegs} (run : Nat) (level : Int) (hst : s.dec.state = .midBlock)
      (hr : ReadsFrom s.frame s.rd r) (hpos : s.dec.vpos + run + 1 < 64) :
      Decodes s (((s.withRd r).withDec { s.dec with vpos := s.dec.vpos + run + 1 }).emit (mdec run level))
  /-- an end-of-block -/
  | endsBlock {r : ReaderRegs} (hst : s.dec.state = .midBlock) (hr : ReadsFrom s.frame s.rd r) :
      Decodes s (endOfBlock (s.withRd r))
  /-- the padding tail -/
  | checksPadding (v tail : Nat) (hst : s.dec.state = .padding) :
      Decodes s (paddingOutcome v (takeBits s.frame s.rd 10) tail s)

/-! ### The shared operations take one of these ways -/

section
variable {s t : State} {r : ReaderRegs}

/-- A read inside a step faults the decoder or goes on behind the bits read. -/
theorem decodes_readThen (n : Nat) {k : Nat → State → State} (hst : s.dec.state = .blockStart ∨ s.dec.state = .midBlock)
    (hr : ReadsFrom s.frame s.rd r) (hk : ∀ v r', ReadsFrom s.frame s.rd r' → Decodes s (k v (s.withRd r'))) :
    Decodes s (readThen n (s.withRd r) k) := by
  rcases readThen_cases n (s.withRd r) k with ⟨-, h⟩ | ⟨-, h⟩ <;> rw [h]
  · exact .faults hst (hr.read n) rfl
  · exact hk _ _ (hr.read n)

theorem decodes_skipThen (n : Nat) {k : State → State} (hst : s.dec.state = .blockStart ∨ s.dec.state = .midBlock)
    (hr : ReadsFrom s.frame s.rd r) (hk : ∀ r', ReadsFrom s.frame s.rd r' → Decodes s (k (s.withRd r'))) :
    Decodes s (skipThen n (s.withRd r) k) :=
  decodes_readThen n hst hr fun _ => hk

theorem decodes_placeCode (run : Nat) (level : Int) (hst : s.dec.state = .midBlock) (hr : ReadsFrom s.frame s.rd r) :
    Decodes s (placeCode run level (s.withRd r)) := by
  rcases placeCode_cases run level (s.withRd r) with ⟨hpos, h⟩ | ⟨-, h⟩ <;> rw [h]
  · exact .placesCode run level hst hr hpos
  · exact .faults (.inr hst) hr rfl

theorem decodes_startBlockV3 (diff : Int) (hst : s.dec.state = .blockStart) (hr : ReadsFrom s.frame s.rd r) :
    Decodes s (startBlockV3 diff (s.withRd r)) := by
  rcases startBlockV3_cases diff (s.withRd r) with ⟨hdc, h⟩ | ⟨-, h⟩ <;> rw [h]
  · exact .startsPredicted _ diff hst hr hdc
  · exact .faults (.inl hst) hr rfl

/-- A ten-bit block start, whatever value is taken for its DC (43_decoder.md R189, R193). -/
theorem decodes_dcTen (code : Nat → MdecCode) (hst : s.dec.state = .blockStart) :
    Decodes s (readThen 10 s fun v => startBlock (code v)) :=
  decodes_readThen 10 (.inl hst) .start fun v _ hr => .startsBlock (code v) hst hr

/-- An STRv3 block start of a known size, whatever differential its bits are taken for (43_decoder.md R191). -/
theorem decodes_dcV3 (len size : Nat) (diff : Nat → Int) (hst : s.dec.state = .blockStart) :
    Decodes s (skipThen len s fun s' =>
      if size = 0 then startBlockV3 0 s' else readThen size s' fun v => startBlockV3 (diff v)) := by
  refine decodes_skipThen len (.inl hst) .start fun r hr => ?_
  split
  · exact decodes_startBlockV3 0 hst hr
  · exact decodes_readThen size (.inl hst) hr fun v _ hr' => decodes_startBlockV3 (diff v) hst hr'

theorem decodes_dcV3Start (hst : s.dec.state = .blockStart) : Decodes s (dcV3Start s) := by
  unfold dcV3Start
  dsimp only
  split
  · exact .faults (.inl hst) .start rfl
  · exact decodes_dcV3 _ _ _ hst

theorem decodes_blockStartStep (hst : s.dec.state = .blockStart) : Decodes s (blockStartStep s) := by
  unfold blockStartStep
  split
  · exact decodes_dcTen _ hst
  · exact decodes_dcTen _ hst
  · exact decodes_dcTen _ hst
  · exact decodes_dcV3Start hst
  · exact .startsBlock _ hst .start

theorem decodes_escStd (hst : s.dec.state = .midBlock) (hr : ReadsFrom s.frame s.rd r) :
    Decodes s (escStd (s.withRd r)) :=
  decodes_readThen 6 (.inr hst) hr fun run _ hr1 => decodes_readThen 10 (.inr hst) hr1 fun v _ hr2 =>
    decodes_placeCode run (sext 10 v) hst hr2

theorem decodes_escLain (hst : s.dec.state = .midBlock) (hr : ReadsFrom s.frame s.rd r) :
    Decodes s (escLain (s.withRd r)) := by
  refine decodes_readThen 6 (.inr hst) hr fun run _ hr1 => decodes_readThen 8 (.inr hst) hr1 fun b r2 hr2 => ?_
  split
  · exact decodes_readThen 8 (.inr hst) hr2 fun x _ hr3 => decodes_placeCode run x hst hr3
  · split
    · exact decodes_readThen 8 (.inr hst) hr2 fun x _ hr3 => decodes_placeCode run (x - 256) hst hr3
    · exact decodes_placeCode run (sext 8 b) hst hr2

theorem decodes_escapeStep (hst : s.dec.state = .midBlock) (hr : ReadsFrom s.frame s.rd r) :
    Decodes s (escapeStep (s.withRd r)) := by
  unfold escapeStep
  split
  · exact decodes_escLain hst hr
  · exact decodes_escStd hst hr

theorem decodes_codeStep (len : Nat) (meaning : CodeMeaning) (hst : s.dec.state = .midBlock) :
    Decodes s (codeStep len meaning s) := by
  refine decodes_skipThen len (.inr hst) .start fun r hr => ?_
  cases meaning with
  | eob => exact .endsBlock hst hr
  | esc => exact decodes_escapeStep hst hr
  | ac run level => exact decodes_placeCode run level hst hr

theorem decodes_acStep (hst : s.dec.state = .midBlock) : Decodes s (acStep s) := by
  unfold acStep
  dsimp only
  split
  · refine .faults (.inr hst) .start ?_
    split <;> rfl
  · exact decodes_codeStep _ _ hst

/-- One DEC_NEXT, state by state (43_decoder.md R188). -/
theorem decodes_decNext (s : State) : Decodes s (decNext s) := by
  unfold decNext
  split
  · next hst => exact .notStarted hst
  · next hst => exact decodes_blockStartStep hst
  · next hst => exact decodes_acStep hst
  · next hst => exact .checksPadding _ _ hst
  · next hst => exact .ended hst
  · next hst => exact .faultsAgain hst

end

/-! ### The tokens (30_encoding.md R85, log 9) -/

theorem codeTable_length (d : Dialect) : (codeTable d).length = 224 := by
  have h := congrArg List.length (codeTable_ordinals d)
  rw [List.length_map, List.length_map] at h
  exact h.trans rfl

/-- The 224 bit strings by ordinal. -/
theorem exec_of_ordinal {i : Instr} {k : Nat} (h : i.ordinal = some k) (s : State) :
    k < 224 ∧ exec i s = codeToken k s := by
  cases i <;> cases h <;> exact ⟨by decide, rfl⟩

/-- The eighteen STRv3 DC tokens by class, size and differential bits. -/
theorem exec_of_dcV3Fields {i : Instr} {f : Bool × Nat × Nat} (h : dcV3Fields i = some f) (s : State) :
    exec i s = dcV3Token f.1 f.2.1 f.2.2 s := by
  cases i <;> cases h <;> rfl

section
variable {s t : State}

theorem decodes_codeToken {k : Nat} (hk : k < 224) (h : codeToken k s = .next t) : Decodes s t := by
  obtain ⟨hst, rfl⟩ := (tokenAt_next _ _ _ _).1 h
  have hlen := codeTable_length (dialectOf s.cfg.format)
  rw [List.getElem?_eq_getElem (by omega)]
  exact decodes_codeStep _ _ (eq_of_beq hst)

theorem decodes_dcV3Token {luma : Bool} {size d : Nat} (h : dcV3Token luma size d s = .next t) : Decodes s t := by
  obtain ⟨hat, rfl⟩ := (tokenAt_next _ _ _ _).1 h
  simp only [atDcV3, Bool.and_eq_true, beq_iff_eq] at hat
  exact decodes_dcV3 _ _ _ hat.1.1

theorem decodes_padToken {f : Format} {tail : Bits} (h : padToken f tail s = .next t) : Decodes s t := by
  obtain ⟨hat, rfl⟩ := (tokenAt_next _ _ _ _).1 h
  simp only [atPadding, Bool.and_eq_true, beq_iff_eq] at hat
  exact .checksPadding _ _ hat.1

theorem decodes_dc10 {v : BitVec 10} (h : execDc10 v s = .next t) : Decodes s t := by
  obtain ⟨hat, rfl⟩ := (tokenAt_next _ _ _ _).1 h
  simp only [atDcTen, Bool.and_eq_true, beq_iff_eq] at hat
  exact decodes_dcTen _ hat.1

theorem decodes_escStdPayload {run : BitVec 6} {level : BitVec 10} (h : execEscStdPayload run level s = .next t) :
    Decodes s t := by
  obtain ⟨hat, rfl⟩ := (tokenAt_next _ _ _ _).1 h
  simp only [atEscStd, Bool.and_eq_true, beq_iff_eq] at hat
  exact decodes_skipThen 6 (.inr hat.1) .start fun _ hr1 => decodes_skipThen 10 (.inr hat.1) hr1 fun _ hr2 =>
    decodes_placeCode _ _ hat.1 hr2

theorem decodes_escLainShort {run : BitVec 6} {b : BitVec 8} (h : execEscLainPayloadShort run b s = .next t) :
    Decodes s t := by
  obtain ⟨hat, rfl⟩ := (tokenAt_next _ _ _ _).1 h
  simp only [atEscLain, Bool.and_eq_true, beq_iff_eq] at hat
  exact decodes_skipThen 6 (.inr hat.1) .start fun _ hr1 => decodes_skipThen 8 (.inr hat.1) hr1 fun _ hr2 =>
    decodes_placeCode _ _ hat.1 hr2

theorem decodes_escLainExtended {run : BitVec 6} {level : Int} (h : escLainExtended run level s = .next t) :
    Decodes s t := by
  obtain ⟨hat, rfl⟩ := (tokenAt_next _ _ _ _).1 h
  simp only [atEscLain, Bool.and_eq_true, beq_iff_eq] at hat
  exact decodes_skipThen 6 (.inr hat.1) .start fun _ hr1 => decodes_skipThen 8 (.inr hat.1) hr1 fun _ hr2 =>
    decodes_skipThen 8 (.inr hat.1) hr2 fun _ hr3 => decodes_placeCode _ _ hat.1 hr3

/-- A token of the frame bitstream, where it answers a next state, is a step of the state machine. -/
theorem decodes_token {i : Instr} (hi : isBitstreamToken i = true) (h : exec i s = .next t) : Decodes s t := by
  cases hcode : i.ordinal with
  | some k =>
    obtain ⟨hk, hexec⟩ := exec_of_ordinal hcode s
    exact decodes_codeToken hk (hexec.symm.trans h)
  | none =>
    cases hdc : dcV3Fields i with
    | some f => exact decodes_dcV3Token ((exec_of_dcV3Fields hdc s).symm.trans h)
    | none =>
      cases i with
      | dc10 v => exact decodes_dc10 h
      | escStdPayload run level => exact decodes_escStdPayload h
      | escLainPayloadShort run b => exact decodes_escLainShort h
      | escLainPayloadPos run x => exact decodes_escLainExtended h
      | escLainPayloadNeg run x => exact decodes_escLainExtended h
      | pad10Strv2 => exact decodes_padToken h
      | pad10Strv3 => exact decodes_padToken h
      | _ => exact nomatch hi, hcode, hdc

end

end Sys2Proof.Machine
end

section
/-! PROOFS. What a decode step keeps: the units it does not own (43_decoder.md R209), the soundness of the decode context
and of the error registers (10_state.md R31 to R36, R42, R47). -/

namespace Sys2Proof.Machine

/-! ### The units a decode step leaves alone -/

/-- Both states hold the same registers, but for the error registers, and the same byte spaces. -/
structure SameRegisters (s t : State) : Prop where
  cfg : t.cfg = s.cfg
  frame : t.frame = s.frame
  ikiTable : t.ikiTable = s.ikiTable
  out : t.out = s.out
  rd : t.rd = s.rd
  wr : t.wr = s.wr
  dec : t.dec = s.dec
  enc : t.enc = s.enc
  srch : t.srch = s.srch
  lz : t.lz = s.lz

/-- The registers the padding check writes (43_decoder.md R205). -/
theorem paddingOutcome_dec (v : Nat) (u : Taken) (tail : Nat) (s : State) :
    (paddingOutcome v u tail s).dec = { s.dec with padStatus := padOutcome u.got v tail, state := .done } := by
  unfold paddingOutcome
  dsimp only
  split <;> rfl

theorem paddingOutcome_err (v : Nat) (u : Taken) (tail : Nat) (s : State) :
    (paddingOutcome v u tail s).err =
      { s.err with warnPadding := warnAfter s.err.warnPadding (padOutcome u.got v tail) } := by
  unfold paddingOutcome
  dsimp only
  split <;> rfl

theorem paddingOutcome_rd (v : Nat) (u : Taken) (tail : Nat) (s : State) :
    (paddingOutcome v u tail s).rd = { u.regs with eos := eosAfter u.regs.eos u.got 10 } := by
  unfold paddingOutcome
  dsimp only
  split <;> rfl

theorem paddingOutcome_same (v : Nat) (u : Taken) (tail : Nat) (s : State) :
    SameRegisters ((s.withRd (paddingOutcome v u tail s).rd).withDec (paddingOutcome v u tail s).dec)
      (paddingOutcome v u tail s) := by
  unfold paddingOutcome
  dsimp only
  split <;> exact ⟨rfl, rfl, rfl, rfl, rfl, rfl, rfl, rfl, rfl, rfl⟩

section
variable {s t : State}

/-- A decode step writes the reader, the decoder and the error registers alone (43_decoder.md R209). -/
theorem Decodes.same (h : Decodes s t) : SameRegisters ((s.withRd t.rd).withDec t.dec) t := by
  cases h with
  | checksPadding v tail _ => exact paddingOutcome_same v _ tail s
  | _ => exact ⟨rfl, rfl, rfl, rfl, rfl, rfl, rfl, rfl, rfl, rfl⟩

/-- A decode step moves the reader by reads and skips alone. -/
theorem Decodes.reads (h : Decodes s t) : ReadsFrom s.frame s.rd t.rd := by
  cases h with
  | notStarted _ | ended _ | faultsAgain _ => exact .start
  | faults _ hr _ | startsBlock _ _ hr | startsPredicted _ _ _ hr _ | placesCode _ _ _ hr _ | endsBlock _ hr => exact hr
  | checksPadding v tail _ =>
    rw [paddingOutcome_rd]
    exact .read 10 .start

/-- A decode step changes ERR_CODE and ERR_INFO only as the exception it reports (10_state.md R42). -/
theorem Decodes.errRecorded (h : Decodes s t) :
    (t.err.code = s.err.code ∧ t.err.info = s.err.info) ∨
      ∃ v, t.host.reply = .exception t.err.code t.err.info v := by
  cases h with
  | notStarted _ | faultsAgain _ | faults _ _ _ => exact .inr ⟨none, rfl⟩
  | checksPadding v tail _ =>
    rw [paddingOutcome_err]
    exact .inl ⟨rfl, rfl⟩
  | _ => exact .inl ⟨rfl, rfl⟩

end

/-! ### Predictors (43_decoder.md R191) -/

theorem toInt_ofInt_of_dcRange {dc : Int} (h : -512 ≤ dc ∧ dc ≤ 511) : (BitVec.ofInt 10 dc).toInt = dc := by
  rw [BitVec.toInt_ofInt, Int.bmod_eq_of_le] <;> omega

/-- The predictors are multiples of 4. -/
def PredictorsOk (d : DecRegs) : Prop :=
  d.predCr.toInt % 4 = 0 ∧ d.predCb.toInt % 4 = 0 ∧ d.predY.toInt % 4 = 0

theorem predictor_mod_four {d : DecRegs} (h : PredictorsOk d) : (predictor d).toInt % 4 = 0 := by
  obtain ⟨hcr, hcb, hy⟩ := h
  unfold predictor
  split <;> assumption

theorem predictorsOk_setPredictor {d : DecRegs} (h : PredictorsOk d) {v : BitVec 10} (hv : v.toInt % 4 = 0) :
    PredictorsOk (setPredictor d v) := by
  obtain ⟨hcr, hcb, hy⟩ := h
  unfold setPredictor
  split
  · exact ⟨hv, hcb, hy⟩
  · exact ⟨hcr, hv, hy⟩
  · exact ⟨hcr, hcb, hv⟩

/-- Writing a predictor writes nothing else of the decoder. -/
theorem setPredictor_eq (d : DecRegs) (v : BitVec 10) :
    setPredictor d v =
      { d with predCr := (setPredictor d v).predCr, predCb := (setPredictor d v).predCb,
               predY := (setPredictor d v).predY } := by
  unfold setPredictor
  split <;> rfl

/-- A differential in range gives the predictor of the class another multiple of 4. -/
theorem predictorsOk_predicted {d : DecRegs} (h : PredictorsOk d) {diff : Int}
    (hdc : -512 ≤ (predictor d).toInt + 4 * diff ∧ (predictor d).toInt + 4 * diff ≤ 511) :
    PredictorsOk (setPredictor d (BitVec.ofInt 10 ((predictor d).toInt + 4 * diff))) := by
  have hmod := predictor_mod_four h
  refine predictorsOk_setPredictor h ?_
  rw [toInt_ofInt_of_dcRange hdc]
  omega

/-! ### The decode context -/

section
variable {s t : State}

theorem DecoderOk.predictors (h : DecoderOk s) : PredictorsOk s.dec := ⟨h.predCr, h.predCb, h.predY⟩

/-- The decoder's soundness speaks of its own registers and the configuration alone. -/
theorem DecoderOk.congr (h : DecoderOk s) (hdec : t.dec = s.dec) (hcfg : t.cfg = s.cfg) : DecoderOk t := by
  obtain ⟨h1, h2, h3, h4, h5, h6, h7, h8, h9, h10⟩ := h
  rw [blocksFit, ← hdec, ← hcfg] at h5
  rw [← hdec] at h1 h2 h3 h4 h6 h7 h8 h9 h10
  exact ⟨h1, h2, h3, h4, h5, h6, h7, h8, h9, h10⟩

/-- Outside FAULT nothing is recorded in DEC_FAULT_CODE and DEC_FAULT_INFO. -/
theorem DecoderOk.noFault (h : DecoderOk s) (hst : s.dec.state ≠ .fault) :
    s.dec.faultCode = 0#4 ∧ s.dec.faultInfo = 0 := by
  have := h.fault
  rwa [if_neg hst] at this

/-- Before DONE no padding has been checked. -/
theorem DecoderOk.notChecked (h : DecoderOk s) (hst : s.dec.state ≠ .done) : s.dec.padStatus = .notChecked := by
  by_contra hc
  exact hst (h.checked hc)

theorem faultsDecoder_iff (e : Exc) : e.faultsDecoder = true ↔ e.code = 2#4 ∨ e.code = 3#4 := by
  simp [Exc.faultsDecoder]

/-- A frame that stands before a block or in one still has a block to come. -/
theorem DecoderOk.blocks_lt (h : DecoderOk s) (hst : s.dec.state = .blockStart ∨ s.dec.state = .midBlock) :
    s.dec.ctxBlocks < 6 * s.cfg.mbCount := by
  have hfits := h.fits
  unfold blocksFit at hfits
  rcases hst with hst | hst <;> rw [hst] at hfits
  · exact hfits.1
  · exact hfits

/-- A fault inside a frame keeps the counts and records the exception (43_decoder.md R208). -/
theorem decoderOk_faults {r : ReaderRegs} {e : Exc} (h : DecoderOk s)
    (hst : s.dec.state = .blockStart ∨ s.dec.state = .midBlock) (he : e.faultsDecoder = true) :
    DecoderOk (decRaise (s.withRd r) e) := by
  have hcodes := h.codes
  have hdone : s.dec.state ≠ .done := by rcases hst with hst | hst <;> simp [hst]
  constructor <;> simp only [decRaise, State.raise_dec, State.raise_cfg, State.withRd_dec, State.withRd_cfg, blocksFit,
    faultRecord_faults e _ he]
  case block => exact h.block
  case counts => exact h.counts
  case codes => rw [if_neg (by decide)]; omega
  case vpos => exact h.vpos
  case fits => exact h.blocks_lt hst
  case predCr => exact h.predCr
  case predCb => exact h.predCb
  case predY => exact h.predY
  case fault => simpa using (faultsDecoder_iff e).1 he
  case checked => exact fun hc => absurd (h.notChecked hdone) hc

/-- A fault raised again is recorded again (43_decoder.md R208). -/
theorem stickyExc_faults (h : DecoderOk s) (hst : s.dec.state = .fault) : (stickyExc s.dec).faultsDecoder = true := by
  have hfault := h.fault
  rw [if_pos hst] at hfault
  exact (faultsDecoder_iff _).2 hfault

theorem decoderOk_faultsAgain (h : DecoderOk s) (hst : s.dec.state = .fault) :
    DecoderOk (decRaise s (stickyExc s.dec)) := by
  refine h.congr ?_ rfl
  rw [decRaise, State.raise_dec, faultRecord_faults _ _ (stickyExc_faults h hst), ← hst]
  rfl

/-- A block start counts its code and stands inside the block (43_decoder.md R194). -/
theorem decoderOk_startBlock (code : MdecCode) (h : DecoderOk s) (hst : s.dec.state = .blockStart) :
    DecoderOk (startBlock code s) := by
  have hcodes := h.codes
  rw [if_neg (by simp [hst])] at hcodes
  constructor <;> simp only [startBlock, State.emit_dec, State.emit_cfg, State.withDec_dec, State.withDec_cfg, blocksFit]
  case block => exact h.block
  case counts => exact h.counts
  case codes => simp only [if_pos]; omega
  case vpos => omega
  case fits => exact h.blocks_lt (.inl hst)
  case predCr => exact h.predCr
  case predCb => exact h.predCb
  case predY => exact h.predY
  case fault => simpa using h.noFault (by simp [hst])
  case checked => exact fun hc => absurd (h.notChecked (by simp [hst])) hc

/-- New predictors keep the decoder sound. -/
theorem decoderOk_setPredictor {v : BitVec 10} (h : DecoderOk s) (hp : PredictorsOk (setPredictor s.dec v)) :
    DecoderOk (s.withDec (setPredictor s.dec v)) := by
  obtain ⟨hcr, hcb, hy⟩ := hp
  rw [setPredictor_eq]
  exact ⟨h.block, h.counts, h.codes, h.vpos, h.fits, hcr, hcb, hy, h.fault, h.checked⟩

/-- A placed code stays inside the block (43_decoder.md R201). -/
theorem decoderOk_placesCode (code : MdecCode) {p : Nat} (h : DecoderOk s) (hst : s.dec.state = .midBlock)
    (hp : p < 64) : DecoderOk ((s.withDec { s.dec with vpos := p }).emit code) := by
  have hcodes := h.codes
  have hfits := h.blocks_lt (.inr hst)
  constructor <;> simp only [State.emit_dec, State.emit_cfg, State.withDec_dec, State.withDec_cfg, blocksFit, hst]
  case block => exact h.block
  case counts => exact h.counts
  case codes => rw [if_pos hst] at hcodes; simp only [if_pos]; omega
  case vpos => exact hp
  case fits => exact hfits
  case predCr => exact h.predCr
  case predCb => exact h.predCb
  case predY => exact h.predY
  case fault => simpa using h.noFault (by simp [hst])
  case checked => exact fun hc => absurd (h.notChecked (by simp [hst])) hc

/-- After an end-of-block the decoder stands before the next block, at the tail, or in DONE (43_decoder.md R203). -/
theorem afterBlock_state_cases (f : Format) (mbCount : Nat) (d : DecRegs) :
    (d.ctxBlocks + 1 ≠ 6 * mbCount ∧ (afterBlock f mbCount d).state = .blockStart) ∨
    (d.ctxBlocks + 1 = 6 * mbCount ∧ (padTail f).isSome = true ∧ (afterBlock f mbCount d).state = .padding) ∨
    (d.ctxBlocks + 1 = 6 * mbCount ∧ (afterBlock f mbCount d).state = .done) := by
  by_cases hlast : d.ctxBlocks + 1 = 6 * mbCount
  · by_cases htail : (padTail f).isSome = true
    · exact .inr (.inl ⟨hlast, htail, by simp [afterBlock, hlast, htail]⟩)
    · exact .inr (.inr ⟨hlast, by simp [afterBlock, hlast, htail]⟩)
  · exact .inl ⟨hlast, by simp [afterBlock, hlast]⟩

theorem blocksFit_endOfBlock (h : s.dec.ctxBlocks < 6 * s.cfg.mbCount) : blocksFit (endOfBlock s) := by
  simp only [blocksFit, endOfBlock, State.emit_dec, State.emit_cfg, State.withDec_dec, State.withDec_cfg]
  rcases afterBlock_state_cases s.cfg.format s.cfg.mbCount s.dec with ⟨hmore, hst⟩ | ⟨hlast, htail, hst⟩ | ⟨hlast, hst⟩ <;>
    rw [hst]
  · exact ⟨Nat.lt_of_le_of_ne h hmore, rfl⟩
  · exact ⟨hlast, htail⟩
  · exact hlast

/-- An end-of-block counts the block, and the state that follows fits the count (43_decoder.md R203). -/
theorem decoderOk_endOfBlock (h : DecoderOk s) (hst : s.dec.state = .midBlock) : DecoderOk (endOfBlock s) := by
  have hblock := h.block
  have hcounts := h.counts
  have hcodes := h.codes
  rw [if_pos hst] at hcodes
  have hleft : (endOfBlock s).dec.state ≠ .midBlock ∧ (endOfBlock s).dec.state ≠ .fault := by
    rcases afterBlock_state_cases s.cfg.format s.cfg.mbCount s.dec with ⟨-, hst'⟩ | ⟨-, -, hst'⟩ | ⟨-, hst'⟩ <;>
      simp [endOfBlock, hst']
  constructor
  case block =>
    change (if s.dec.ctxBlock = 5 then 0 else s.dec.ctxBlock + 1) < 6
    split <;> omega
  case counts =>
    change s.dec.ctxBlocks + 1 = 6 * (if s.dec.ctxBlock = 5 then s.dec.ctxMb + 1 else s.dec.ctxMb) +
      (if s.dec.ctxBlock = 5 then 0 else s.dec.ctxBlock + 1)
    split <;> omega
  case codes =>
    rw [if_neg hleft.1]
    change 2 * (s.dec.ctxBlocks + 1) + 0 ≤ s.dec.ctxCodes + 1
    omega
  case vpos => exact Nat.zero_lt_succ _
  case fits => exact blocksFit_endOfBlock (h.blocks_lt (.inr hst))
  case predCr => exact h.predCr
  case predCb => exact h.predCb
  case predY => exact h.predY
  case fault =>
    rw [if_neg hleft.2]
    exact h.noFault (by simp [hst])
  case checked => exact fun hc => absurd (h.notChecked (by simp [hst])) hc

/-- The padding check ends the frame (43_decoder.md R205). -/
theorem decoderOk_paddingOutcome (v : Nat) (u : Taken) (tail : Nat) (h : DecoderOk s) (hst : s.dec.state = .padding) :
    DecoderOk (paddingOutcome v u tail s) := by
  have hcodes := h.codes
  have hfits := h.fits
  rw [blocksFit, hst] at hfits
  rw [if_neg (by simp [hst])] at hcodes
  constructor <;> simp only [paddingOutcome_dec, (paddingOutcome_same v u tail s).cfg, blocksFit]
  case block => exact h.block
  case counts => exact h.counts
  case codes => simpa using hcodes
  case vpos => exact h.vpos
  case fits => exact hfits.1
  case predCr => exact h.predCr
  case predCb => exact h.predCb
  case predY => exact h.predY
  case fault => simpa using h.noFault (by simp [hst])
  case checked => exact fun _ => trivial

/-- A decode step keeps the decoder sound. -/
theorem Decodes.decoderOk (h : Decodes s t) (hd : DecoderOk s) : DecoderOk t := by
  cases h with
  | notStarted _ | ended _ => exact hd.congr rfl rfl
  | faultsAgain hst => exact decoderOk_faultsAgain hd hst
  | faults hst _ he => exact decoderOk_faults hd hst he
  | @startsBlock r code hst _ =>
    have hread : DecoderOk (s.withRd r) := hd.congr rfl rfl
    exact decoderOk_startBlock code hread hst
  | @startsPredicted r code diff hst _ hdc =>
    have hread : DecoderOk (s.withRd r) := hd.congr rfl rfl
    have hpred := decoderOk_setPredictor hread (predictorsOk_predicted hd.predictors hdc)
    refine decoderOk_startBlock code hpred ?_
    rw [State.withDec_dec, setPredictor_eq]
    exact hst
  | @placesCode r run level hst _ hpos =>
    have hread : DecoderOk (s.withRd r) := hd.congr rfl rfl
    exact decoderOk_placesCode _ hread hst hpos
  | @endsBlock r hst _ =>
    have hread : DecoderOk (s.withRd r) := hd.congr rfl rfl
    exact decoderOk_endOfBlock hread hst
  | checksPadding v tail hst => exact decoderOk_paddingOutcome v _ tail hd hst

/-! ### The error registers (10_state.md R42, 60_exceptions.md R286) -/

/-- The code of an exception of the block: one of 1..7. -/
def Exc.Known (e : Exc) : Prop := e.code ≠ 0#4 ∧ e.code.toNat ≤ 7

theorem excContract_known (c : Contract) : (excContract c).Known := by simp [Exc.Known, excContract]

theorem known_of_faultsDecoder {e : Exc} (h : e.faultsDecoder = true) : e.Known := by
  unfold Exc.Known
  rcases (faultsDecoder_iff e).1 h with h | h <;> rw [h] <;> decide

/-- The error registers stay sound while they and DEC_PAD_STATUS do not change. -/
theorem ErrorsOk.congr (h : ErrorsOk s) (herr : t.err = s.err) (hpad : t.dec.padStatus = s.dec.padStatus) :
    ErrorsOk t := by
  obtain ⟨h1, h2, h3⟩ := h
  rw [← herr] at h1 h2 h3
  rw [← hpad] at h3
  exact ⟨h1, h2, h3⟩

/-- Exception entry keeps DEC_PAD_STATUS. -/
theorem faultRecord_padStatus (who : Raiser) (e : Exc) (d : DecRegs) : (faultRecord who e d).padStatus = d.padStatus := by
  unfold faultRecord
  split <;> rfl

/-- A recorded exception of the block leaves the error registers sound (60_exceptions.md R293). -/
theorem errorsOk_raise {who : Raiser} {e : Exc} {v : Option Int} (h : ErrorsOk s) (he : e.Known) :
    ErrorsOk (s.raise who e v) := by
  obtain ⟨hne, hle⟩ := he
  refine ⟨hle, fun h0 => absurd h0 hne, ?_⟩
  rw [State.raise_dec, faultRecord_padStatus]
  exact h.warning

/-- A decode step keeps the error registers sound: WARN_PADDING rises exactly with a mismatch. -/
theorem Decodes.errorsOk (h : Decodes s t) (hd : DecoderOk s) (he : ErrorsOk s) : ErrorsOk t := by
  cases h with
  | notStarted _ => exact errorsOk_raise he (excContract_known _)
  | faultsAgain hst => exact errorsOk_raise he (known_of_faultsDecoder (stickyExc_faults hd hst))
  | @faults r e _ _ hf =>
    have hread : ErrorsOk (s.withRd r) := he.congr rfl rfl
    exact errorsOk_raise hread (known_of_faultsDecoder hf)
  | startsPredicted _ _ _ _ _ =>
    refine he.congr rfl ?_
    simp only [startBlock, State.emit_dec, State.withDec_dec]
    rw [setPredictor_eq]
  | ended _ | startsBlock _ _ _ | placesCode _ _ _ _ _ | endsBlock _ _ => exact he.congr rfl rfl
  | checksPadding v tail hst =>
    have hpad := hd.notChecked (by simp [hst])
    have hwarn : s.err.warnPadding = false := by
      rw [← Bool.not_eq_true, he.warning, hpad]
      decide
    constructor <;> simp only [paddingOutcome_err, paddingOutcome_dec]
    case code => exact he.code
    case noInfo => exact he.noInfo
    case warning => simp [warnAfter, hwarn]

end

end Sys2Proof.Machine
end

section
/-! PROOFS. 44_encoder.md, 45_qscale_search.md: what an encode and a search leave in the registers they write, and which
exceptions they end in. -/

namespace Sys2Proof.Machine

/-! ### The registers during an encode (10_state.md R30, R37) -/

/-- The encoder's and the writer's registers while at most `left` blocks are still to come. -/
structure EncRuns (left : Nat) (st : EncSt) : Prop where
  tableWf : st.enc.table.wf = true
  tableSize : st.enc.table.size = if st.enc.format = .iki then 12 * st.enc.mbCount else 0
  prevCr : Rounded st.enc.prevCr
  prevCb : Rounded st.enc.prevCb
  prevY : Rounded st.enc.prevY
  scales : st.enc.mbQ.length = if st.enc.format = .iki then st.enc.mbCount else 0
  blocks : st.enc.blocks + left ≤ 6 * st.enc.mbCount
  codes : 2 * st.enc.blocks ≤ st.enc.codes
  writer : st.wr.policy = .le16 → st.wr.align ≠ .one

/-- A job's writer never combines the word-swapped policy with one-byte alignment (20_memory.md R67). -/
def EncJob.AlignOk (j : EncJob) : Prop := policyOf j.fmt = .le16 → j.align ≠ .one

/-- How a part of an encode ends: registers for at most `left` more blocks, and an exception of the block, if any. -/
def EncEnds (left : Nat) (r : EncSt × Option Exc) : Prop := EncRuns left r.1 ∧ ∀ e, r.2 = some e → e.Known

theorem rounded_zero : Rounded 0 := ⟨by decide, by decide, rfl⟩

/-- Rounding and clamping give a legal rounded value (44_encoder.md R226). -/
theorem rounded_rnd4 (dc : Int) : Rounded (rnd4 dc) := by
  unfold Rounded rnd4
  omega

section
variable {left : Nat} {st : EncSt}

theorem EncRuns.fewer {n : Nat} (h : EncRuns left st) (hn : n ≤ left) : EncRuns n st :=
  { h with blocks := by have := h.blocks; omega }

/-- Written bits reach no register but BW_BITS. -/
theorem EncRuns.put (h : EncRuns left st) (b : Bits) : EncRuns left (st.put b) := { h with }

/-- A rounded value replaces the one of its class (10_state.md R37). -/
theorem EncRuns.setPrevRounded (h : EncRuns left st) (b : Nat) {r : Int} (hr : Rounded r) :
    EncRuns left { st with enc := setPrevRounded st.enc b r } := by
  unfold Machine.setPrevRounded
  split
  · exact { h with prevCr := hr }
  · exact { h with prevCb := hr }
  · exact { h with prevY := hr }

/-- The DC of a block keeps the table's form and the rounded values legal (44_encoder.md R225 to R227, R233). -/
theorem EncRuns.encodeDc (h : EncRuns left st) (mb b : Nat) (code : MdecCode) :
    EncRuns left (encodeDc mb b code st) := by
  unfold Machine.encodeDc
  split
  · exact h.put _
  · exact h.put _
  · exact h.put _
  · exact (h.setPrevRounded b (rounded_rnd4 _)).put _
  · exact { h with tableWf := ikiPack_wf _ _ _ _ h.tableWf, tableSize := (ikiPack_size _ _ _ _).trans h.tableSize }

/-! ### Blocks and frames -/

/-- The only exception of an AC code is TooMuchEnergy (44_encoder.md R231). -/
theorem acBits_known {f : Format} {run : Nat} {level : Int} {e : Exc} (h : (acBits f run level).2 = some e) :
    e.Known := by
  unfold acBits at h
  dsimp only at h
  split at h
  · cases h
  · split at h
    · split at h <;> cases h
      simp [Exc.Known, excTooMuchEnergy]
    · cases h

/-- AC codes write bits and nothing else, up to the first exception (44_encoder.md R224). -/
theorem EncRuns.encodeAcs (h : EncRuns left st) (cs : List MdecCode) : EncEnds left (encodeAcs cs st) := by
  induction cs generalizing st with
  | nil => exact ⟨h, fun _ h => nomatch h⟩
  | cons c cs ih =>
    unfold Machine.encodeAcs
    split
    · exact ih (h.put _)
    · next hac => exact ⟨h.put _, fun e' he => acBits_known (congrArg Prod.snd hac ▸ he)⟩

/-- An end of block counts one block and at least two codes (44_encoder.md R224). -/
theorem EncRuns.finishBlock (h : EncRuns (left + 1) st) {len : Nat} (hlen : 2 ≤ len) :
    EncRuns left (finishBlock len st) := by
  have hblocks := h.blocks
  have hcodes := h.codes
  exact { h.put (eobBits (dialectOf st.enc.format)) with
    blocks := show st.enc.blocks + 1 + left ≤ 6 * st.enc.mbCount by omega
    codes := show 2 * (st.enc.blocks + 1) ≤ st.enc.codes + len by omega }

theorem EncRuns.encodeBlock (h : EncRuns (left + 1) st) (mb b : Nat) {blk : List MdecCode} (hlen : 2 ≤ blk.length) :
    EncEnds left (encodeBlock mb b blk st) := by
  obtain ⟨hregs, hexc⟩ := (h.encodeDc mb b (blk.headD 0)).encodeAcs (acCodes blk)
  unfold Machine.encodeBlock
  split
  · next st' hac =>
    rw [hac] at hregs
    exact ⟨hregs.finishBlock hlen, fun _ h => nomatch h⟩
  · next st' e hac =>
    rw [hac] at hregs hexc
    exact ⟨hregs.fewer (Nat.le_succ left), hexc⟩

theorem EncRuns.encodeOne (h : EncRuns (left + 1) st) (src : List Answer) (mb b : Nat) :
    EncEnds left (encodeOne src mb b st) := by
  have hkept := h.fewer (Nat.le_succ left)
  unfold Machine.encodeOne
  dsimp only
  split
  · exact ⟨hkept, fun _ he => Option.some.inj he ▸ excContract_known _⟩
  · next hblk =>
    split
    · exact ⟨hkept, fun _ he => Option.some.inj he ▸ by simp [Exc.Known, excIncompatible]⟩
    · refine h.encodeBlock mb b ?_
      simp only [wellFormedBlock, Bool.not_eq_true', Bool.not_eq_false, Bool.and_eq_true, decide_eq_true_eq] at hblk
      obtain ⟨⟨⟨hlen, -⟩, -⟩, -⟩ := hblk
      exact hlen

/-- The blocks of a frame, each counted once. -/
theorem EncRuns.encodeBlocks (src : List Answer) (ps : List (Nat × Nat)) (h : EncRuns ps.length st) :
    EncEnds 0 (encodeBlocks src ps st) := by
  induction ps generalizing st with
  | nil => exact ⟨h, fun _ h => nomatch h⟩
  | cons p ps ih =>
    obtain ⟨hregs, hexc⟩ := EncRuns.encodeOne h src p.1 p.2
    unfold Machine.encodeBlocks
    split
    · next st' hone =>
      rw [hone] at hregs
      exact ih hregs
    · next st' e hone =>
      rw [hone] at hregs hexc
      exact ⟨hregs.fewer (Nat.zero_le _), hexc⟩

theorem blockOrder_length (mbCount : Nat) : (blockOrder mbCount).length = 6 * mbCount := by
  simp [blockOrder, List.length_flatMap, Nat.mul_comm]

/-- A legal job starts with all its blocks to come (44_encoder.md R221). -/
theorem encRuns_encStart {j : EncJob} (hlegal : jobLegal j = true) (halign : j.AlignOk) :
    EncRuns (6 * j.mbCount) ⟨encStart j, writerAt (policyOf j.fmt) j.align⟩ := by
  constructor
  case tableWf => simp only [encStart]; split <;> simp
  case tableSize =>
    by_cases hiki : j.fmt = .iki <;> simp [encStart, hiki, Memory.empty]
  case prevCr => exact rounded_zero
  case prevCb => exact rounded_zero
  case prevY => exact rounded_zero
  case scales =>
    by_cases hiki : j.fmt = .iki
    · simp only [jobLegal, ikiJobLegal, hiki, bne_self_eq_false, Bool.false_or, Bool.and_eq_true, beq_iff_eq] at hlegal
      obtain ⟨-, ⟨⟨hscales, -⟩, -⟩, -⟩ := hlegal
      simpa [encStart, hiki] using hscales
    · simp [encStart, hiki]
  case blocks => simp [encStart]
  case codes => simp [encStart]
  case writer => exact halign

/-- An encode leaves the registers as they were, for an illegal job, or as its own start and blocks give them; it ends
in a frame or in an exception of the block (44_encoder.md R221). -/
theorem encodeFrame_ends {j : EncJob} (halign : j.AlignOk) (st : EncSt) :
    ((encodeFrame j st).1 = st ∨ EncRuns 0 (encodeFrame j st).1) ∧
      ∀ e, (encodeFrame j st).2 = .raised e → e.Known := by
  unfold encodeFrame
  split
  · exact ⟨.inl rfl, fun _ he => EncResult.raised.inj he ▸ excContract_known _⟩
  · next hlegal =>
    rw [Bool.not_eq_true, Bool.not_eq_false'] at hlegal
    have hstart := encRuns_encStart hlegal halign
    rw [← blockOrder_length] at hstart
    obtain ⟨hregs, hexc⟩ := hstart.encodeBlocks j.source
    split
    · next st' hblocks =>
      rw [hblocks] at hregs
      refine ⟨.inr { hregs.put ((padTail j.fmt).getD []) with }, fun e he => ?_⟩
      unfold finishFrame at he
      dsimp only at he
      split at he <;> cases he
      exact excContract_known _
    · next st' e hblocks =>
      rw [hblocks] at hregs hexc
      exact ⟨.inr hregs, fun e' he => EncResult.raised.inj he ▸ hexc e rfl⟩

end

/-! ### The registers during a search (10_state.md R38) -/

/-- The searcher's registers: scales in range, and a kept output within the budget. -/
structure SrchRegs.Ok (x : SrchRegs) : Prop where
  q : x.q ≤ 64
  ql : x.ql ≤ 64
  qc : x.qc ≤ 64
  best : ∀ b, x.best = some b → b.length ≤ x.budget

theorem searcherOk_iff (s : State) : SearcherOk s ↔ s.srch.Ok :=
  ⟨fun ⟨a, b, c, d⟩ => ⟨a, b, c, d⟩, fun ⟨a, b, c, d⟩ => ⟨a, b, c, d⟩⟩

/-- A search at work: no attempt has written the encoder's registers yet, or an attempt has left them sound. -/
structure SearchRuns (st0 : EncSt) (budget : Nat) (x : SearchSt) : Prop where
  regs : x.st = st0 ∨ EncRuns 0 x.st
  srch : x.srch.Ok
  budget : x.srch.budget = budget

/-- A frame found is within the budget, and an exception is one of the block. -/
def SearchResult.Within (budget : Nat) : SearchResult → Prop
  | .found bytes _ => bytes.length ≤ budget
  | .noFit => True
  | .raised e => e.Known

/-- An exception is one of the block. -/
def LainResult.Known : LainResult → Prop
  | .found _ _ _ => True
  | .noFit => True
  | .raised e => e.Known

/-- A frame found is within the budget, and an exception is one of the block. -/
def IkiResult.Within (budget : Nat) : IkiResult → Prop
  | .found bytes _ => bytes.length ≤ budget
  | .noFit => True
  | .raised e => e.Known

theorem searchRuns_searchStart (st : EncSt) (budget : Nat) : SearchRuns st budget ⟨searchStart budget, st⟩ :=
  ⟨.inl rfl, ⟨Nat.zero_le _, Nat.zero_le _, Nat.zero_le _, fun _ h => nomatch h⟩, rfl⟩

/-- An attempt is passed over as too much only for its exception. -/
theorem judge_tooMuch {budget : Nat} {r : EncResult} {e : Exc} (h : judge budget r = .tooMuch e) : r = .raised e := by
  cases r with
  | frame b => by_cases hb : b.length ≤ budget <;> simp [judge, hb] at h
  | raised e' => by_cases he : e'.code = 4#4 <;> simp [judge, he] at h; rw [h]

section
variable {st0 : EncSt} {budget : Nat} {x : SearchSt}

/-- The encoder's registers after one more attempt. -/
theorem attempt_regs {j : EncJob} {st : EncSt} (halign : j.AlignOk) (h : st = st0 ∨ EncRuns 0 st) :
    (encodeFrame j st).1 = st0 ∨ EncRuns 0 (encodeFrame j st).1 := by
  rcases (encodeFrame_ends halign st).1 with hsame | hruns
  · rwa [hsame]
  · exact .inr hruns

/-- One more attempt, its scales noted. -/
theorem SearchRuns.attempt {j : EncJob} {y : SrchRegs} (h : SearchRuns st0 budget x) (halign : j.AlignOk) (hy : y.Ok)
    (hb : y.budget = x.srch.budget) : SearchRuns st0 budget { srch := y, st := (encodeFrame j x.st).1 } :=
  ⟨attempt_regs halign h.regs, hy, hb.trans h.budget⟩

/-- The frame found is kept. -/
theorem SearchRuns.keep {bytes : List Byte} (h : SearchRuns st0 budget x) (hfit : bytes.length ≤ budget) :
    SearchRuns st0 budget { x with srch := { x.srch with best := some bytes } } :=
  ⟨h.regs, { h.srch with best := fun _ hb => Option.some.inj hb ▸ h.budget ▸ hfit }, h.budget⟩

/-! ### The single-scale loop (45_qscale_search.md R248) -/

theorem singleLoop_runs {job : Nat → EncJob} (hjob : ∀ q, (job q).AlignOk) (qs : List Nat) (hqs : ∀ q ∈ qs, q ≤ 64)
    (h : SearchRuns st0 budget x) :
    SearchRuns st0 budget (singleLoop job budget qs x).1 ∧ (singleLoop job budget qs x).2.Within budget := by
  induction qs generalizing x with
  | nil => exact ⟨h, trivial⟩
  | cons q qs ih =>
    have hq : ({ x.srch with q := q } : SrchRegs).Ok := { h.srch with q := hqs q List.mem_cons_self }
    have hx := h.attempt (hjob q) hq rfl
    have hrest := ih (fun q' hq' => hqs q' (List.mem_cons_of_mem q hq')) hx
    unfold singleLoop
    dsimp only
    split
    · next bytes hjudge =>
      have hfit := (judge_fits _ _ _ hjudge).2
      exact ⟨hx.keep hfit, hfit⟩
    · exact hrest
    · exact hrest
    · next e hjudge => exact ⟨hx, (encodeFrame_ends (hjob q) x.st).2 e (judge_raises _ _ _ hjudge).1⟩

theorem scalesFrom_le {a q : Nat} (h : q ∈ scalesFrom a) : q ≤ 64 :=
  Nat.le_of_lt (List.mem_range.1 (List.mem_of_mem_drop h))

theorem frameJob_alignOk (f : Format) (o : Operands) : (frameJob f o).AlignOk := padAlign_le16 f

theorem searchFrom_runs (a : Nat) (f : Format) (s : State) :
    SearchRuns (encSt s) s.host.operands.budget (searchFrom a f s).1 ∧
      (searchFrom a f s).2.Within s.host.operands.budget :=
  singleLoop_runs (job := singleJob f s.host.operands) (fun _ => frameJob_alignOk f s.host.operands) _
    (fun _ => scalesFrom_le) (searchRuns_searchStart _ _)

/-! ### The Lain loop (45_qscale_search.md R252, R253) -/

theorem lainScaleStep_le {l c : Nat} {n : Nat × Nat} (h : lainScaleStep l c = some n) (hl : l ≤ 63) (hc : c ≤ 63) :
    n.1 ≤ 63 ∧ n.2 ≤ 63 := by
  unfold lainScaleStep at h
  split at h
  · cases h; exact ⟨by omega, hc⟩
  · split at h
    · cases h; exact ⟨hl, by omega⟩
    · cases h

theorem lainLoop_runs {job : Nat → Nat → EncJob} (hjob : ∀ l c, (job l c).AlignOk) (fuel l c : Nat) (hl : l ≤ 63)
    (hc : c ≤ 63) (h : SearchRuns st0 budget x) :
    SearchRuns st0 budget (lainLoop job budget fuel l c x).1 ∧ (lainLoop job budget fuel l c x).2.Known := by
  induction fuel generalizing l c x with
  | zero => exact ⟨h, trivial⟩
  | succ fuel ih =>
    have hscales : ({ x.srch with ql := l, qc := c } : SrchRegs).Ok := 
      { h.srch with ql := Nat.le_succ_of_le hl, qc := Nat.le_succ_of_le hc }
    have hx := h.attempt (hjob l c) hscales rfl
    have hknown := (encodeFrame_ends (hjob l c) x.st).2
    unfold lainLoop
    dsimp only
    split
    · next bytes hjudge => exact ⟨hx.keep (judge_fits _ _ _ hjudge).2, trivial⟩
    · next e hjudge => exact ⟨hx, hknown e (judge_raises _ _ _ hjudge).1⟩
    · split
      · next n hn =>
        obtain ⟨hl', hc'⟩ := lainScaleStep_le hn hl hc
        exact ih n.1 n.2 hl' hc' hx
      · exact ⟨hx, trivial⟩
    · next e hjudge =>
      split
      · next n hn =>
        obtain ⟨hl', hc'⟩ := lainScaleStep_le hn hl hc
        exact ih n.1 n.2 hl' hc' hx
      · exact ⟨hx, hknown e (judge_tooMuch hjudge)⟩

/-! ### The Iki search (45_qscale_search.md R255, R256) -/

theorem ikiPhase2_runs {job : List Nat → EncJob} (hjob : ∀ mbq, (job mbq).AlignOk) (mbs mbq : List Nat)
    {best : List Byte} {st : EncSt} (hbest : best.length ≤ budget) (h : st = st0 ∨ EncRuns 0 st) :
    ((ikiPhase2 job budget mbs mbq best st).1 = st0 ∨ EncRuns 0 (ikiPhase2 job budget mbs mbq best st).1) ∧
      (ikiPhase2 job budget mbs mbq best st).2.Within budget := by
  induction mbs generalizing mbq best st with
  | nil => exact ⟨h, hbest⟩
  | cons mb mbs ih =>
    unfold ikiPhase2
    split
    · exact ih mbq hbest h
    · have hst := attempt_regs (hjob (mbq.set mb (mbq.getD mb 1 - 1))) h
      dsimp only
      split
      · next bytes hjudge => exact ih _ (judge_fits _ _ _ hjudge).2 hst
      · exact ⟨hst, hbest⟩
      · exact ⟨hst, hbest⟩
      · next e hjudge => exact ⟨hst, (encodeFrame_ends (hjob _) st).2 e (judge_raises _ _ _ hjudge).1⟩

theorem ikiSearch_runs {o : Operands} {r : SearchSt × SearchResult} (hruns : SearchRuns st0 o.budget r.1)
    (hres : r.2.Within o.budget) :
    SearchRuns st0 o.budget (ikiSearch o r).1 ∧ (ikiSearch o r).2.Within o.budget := by
  obtain ⟨x, res⟩ := r
  cases res with
  | noFit => exact ⟨hruns, trivial⟩
  | raised e => exact ⟨hruns, hres⟩
  | found best q =>
    unfold ikiSearch
    dsimp only
    split
    · obtain ⟨hst, hwithin⟩ := ikiPhase2_runs (job := ikiJob o) (fun _ => frameJob_alignOk .iki o)
        (mbOrder o.energy o.distance o.mbCount) (List.replicate o.mbCount q) hres hruns.regs
      split
      · next st best' mbq' hphase =>
        rw [hphase] at hst hwithin
        have hx : SearchRuns st0 o.budget { x with st := st } := ⟨hst, hruns.srch, hruns.budget⟩
        exact ⟨hx.keep hwithin, hwithin⟩
      · next st res' _ hphase =>
        rw [hphase] at hst hwithin
        exact ⟨⟨hst, hruns.srch, hruns.budget⟩, hwithin⟩
    · exact ⟨hruns, hres⟩

end

end Sys2Proof.Machine
end

section
/-! PROOFS. What one instruction can do to the registers, unit by unit, said once for every instruction: the step lemmas
of the invariants and the owners of the registers are read off it. -/

namespace Sys2Proof.Machine

/-! ### The LZSS unit's counter (10_state.md R39) -/

theorem flagI_le_of_lzPutCopy {dsize len dist : Nat} {w w' : LzWork} {f : Option LzFault}
    (h : lzPutCopy dsize len dist w = (w', f)) (hw : w.flagI ≤ 8) : w'.flagI ≤ 8 := by
  rcases lzPutCopy_cases dsize len dist w with ⟨-, hc⟩ | ⟨-, -, hc⟩ | ⟨-, -, hc⟩ <;> cases hc.symm.trans h <;> exact hw

/-- LZ_FLAG_I counts the tokens of one group (46_lzss.md R268). -/
theorem lzLoop_flagI_le (o : FlagOrder) (dsize : Nat) (src : List Byte) (left : Nat) (w : LzWork) (h : w.flagI ≤ 8) :
    (lzLoop o dsize src left w).1.flagI ≤ 8 := by
  fun_induction lzLoop o dsize src left w with
  | case1 | case2 | case4 => exact h
  | case3 | case6 | case9 => exact Nat.sub_le 8 _
  | case5 => next ih => exact ih h
  | case7 | case10 => next hcopy ih => exact ih (flagI_le_of_lzPutCopy hcopy (Nat.sub_le 8 _))
  | case8 | case11 => next hcopy => exact flagI_le_of_lzPutCopy hcopy (Nat.sub_le 8 _)
  | case12 => next ih => exact ih (Nat.sub_le 8 _)

/-! ### How a command ends (60_exceptions.md R285) -/

/-- From s, its registers written, a command that is no decode and no encode answers or raises. -/
inductive Ends (s : State) : State → Prop
  | answers (r : Reply) : Ends s (s.finish r)
  | raises {e : Exc} (v : Option Int) (he : e.Known) : Ends s (s.raise .other e v)

/-- From s, its registers written, an encode or a search ends with OUT set, or raises with OUT empty. -/
inductive EncodeEnds (s : State) : State → Prop
  | answers (bytes : List Byte) (r : Reply) : EncodeEnds s ((s.withOut (Memory.ofBytes bytes)).finish r)
  | raises {e : Exc} (he : e.Known) : EncodeEnds s (s.raise .encoder e)

section
variable {s t : State}

theorem ends_of_finish {r : Reply} (h : (.next (s.finish r) : Result) = .next t) : Ends s t :=
  Host.Outcome.next.inj h ▸ .answers r

theorem ends_of_raise {e : Exc} {v : Option Int} (he : e.Known) (h : (.next (s.raise .other e v) : Result) = .next t) :
    Ends s t :=
  Host.Outcome.next.inj h ▸ .raises v he

theorem ends_of_violate {c : Contract} (h : violate s c = .next t) : Ends s t := ends_of_raise (excContract_known c) h

theorem encodeEnds_of_finish {bytes : List Byte} {r : Reply}
    (h : (.next ((s.withOut (Memory.ofBytes bytes)).finish r) : Result) = .next t) : EncodeEnds s t :=
  Host.Outcome.next.inj h ▸ .answers bytes r

theorem encodeEnds_of_raise {e : Exc} (he : e.Known) (h : (.next (s.raise .encoder e) : Result) = .next t) :
    EncodeEnds s t :=
  Host.Outcome.next.inj h ▸ .raises he

theorem excLzss_known (f : LzFault) : (excLzss f).Known := by simp [Exc.Known, excLzss]

theorem excEndOfStream_known (k : Nat) : (excEndOfStream k).Known := by simp [Exc.Known, excEndOfStream]

theorem excNotRecognized_known : excNotRecognized.Known := by simp [Exc.Known, excNotRecognized]

end

/-! ### The effect of an instruction -/

/-- Everything an instruction that answers a next state can have done to the registers (10_state.md R25 to R42). -/
inductive Effect (s : State) : Instr → State → Prop
  /-- no register but the error registers: a query, a refusal -/
  | reports {i : Instr} {t : State} (h : Ends s t) : Effect s i t
  | resets : Effect s .reset ((resetRegisters s).finish .done)
  | identifies {t : State} (h : Ends s.clearErr t) : Effect s .hdrIdentify t
  | loads (pol : Policy) {start stop : Nat} {buffer : List Byte} (hspan : start ≤ stop ∧ stop ≤ buffer.length)
      (hidle : decodeActive s = false) :
      Effect s (.brInit pol) (((s.withFrame (Memory.ofBytes buffer)).withRd (readerAt start stop pol)).finish .done)
  | reads {i : Instr} {t : State} (n : Nat) (hi : movesCursor i = true) (hidle : decodeActive s = false)
      (h : Ends (s.withRd (readBits s.frame s.rd n).regs) t) : Effect s i t
  | writes {i : Instr} {w : WriterRegs} (hi : isWriting i = true)
      (hw : (w.policy = s.wr.policy ∧ w.align = s.wr.align) ∨ (w.policy = .le16 → w.align ≠ .one)) :
      Effect s i ((s.withWr w).finish .done)
  | finalizes (bytes : List Byte) (r : Reply) :
      Effect s .bwFinal (((s.withOut (Memory.ofBytes bytes)).withWr { s.wr with final := true }).finish r)
  | startsFrame (fmt : BitVec 3) {f : Format} {p : FrameParams} (h : acceptsFrame f p = true) :
      Effect s (.decStart fmt) ((startFrame f p s).finish .done)
  | decodes {i : Instr} {t : State} (hi : isDecoding i = true) (h : Decodes s t) : Effect s i t
  | encodes {i : Instr} {t : State} {x : SrchRegs} {st : EncSt} (hi : isEncoding i = true)
      (hx : x = s.srch ∨ (isSearch i = true ∧ x.Ok)) (hst : st = encSt s ∨ EncRuns 0 st)
      (h : EncodeEnds ((s.clearErr.withSrch x).withEncSt st) t) : Effect s i t
  | unpacks {i : Instr} {t : State} {x : LzRegs} (hi : i = .lzDecomp ∨ i = .lzComp) (hflag : x.flagI ≤ 8)
      (hdst : x.dst.wf = true) (h : Ends (s.clearErr.withLz x) t) : Effect s i t
  | takesByte {i : Instr} {t : State} {x : LzRegs} (hi : isLzss i = true) (hflag : x.flagI = s.lz.flagI)
      (hdst : x.dst = s.lz.dst ∨ x.dst.wf = true) (h : Ends (s.withLz x) t) : Effect s i t

section
variable {s t : State}

/-! ### Reader and writer commands -/

theorem effect_brInit {pol : Policy} (h : execBrInit pol s = .next t) : Effect s (.brInit pol) t := by
  unfold execBrInit at h
  dsimp only at h
  split at h
  · exact .reports (ends_of_violate h)
  · next hlegal =>
    simp only [legalSpan, Bool.or_eq_true, Bool.not_eq_true', not_or, Bool.not_eq_false, Bool.not_eq_true,
      Bool.and_eq_true, decide_eq_true_eq] at hlegal
    obtain ⟨hspan, hidle⟩ := hlegal
    exact Host.Outcome.next.inj h ▸ .loads pol hspan hidle

/-- A direct read is refused, or it moves the cursor of an idle decoder's reader. -/
theorem effect_readCommand {i : Instr} {n : BitVec 5} {view : Nat → Option Int} (hi : movesCursor i = true)
    (h : readCommand n view s = .next t) : Effect s i t := by
  unfold readCommand at h
  split at h
  · exact .reports (ends_of_violate h)
  · next hlegal =>
    have hidle : decodeActive s = false := by
      unfold readerRefusal at hlegal
      split_ifs at hlegal with _ hactive
      exact Bool.eq_false_iff.2 hactive
    dsimp only at h
    refine .reads n.toNat hi hidle ?_
    split at h
    · exact ends_of_raise (excEndOfStream_known _) h
    · split at h <;> exact ends_of_finish h

theorem effect_peekCommand {i : Instr} {n : BitVec 5} {view : Nat → Int} (h : peekCommand n view s = .next t) :
    Effect s i t := by
  unfold peekCommand at h
  split at h
  · exact .reports (ends_of_violate h)
  · exact .reports (ends_of_finish h)

theorem effect_bwInit {pol : Policy} {al : BitVec 2} (h : execBwInit pol al s = .next t) :
    Effect s (.bwInit pol al) t := by
  unfold execBwInit at h
  split at h
  · exact .reports (ends_of_violate h)
  · split at h
    · exact .reports (ends_of_violate h)
    · next hlegal => exact Host.Outcome.next.inj h ▸ .writes rfl (.inr fun hpol hal => hlegal ⟨hpol, hal⟩)

theorem effect_bwWritev {n : BitVec 5} (h : execBwWritev n s = .next t) : Effect s (.bwWritev n) t := by
  unfold execBwWritev at h
  split_ifs at h
  · exact .reports (ends_of_violate h)
  · exact .reports (ends_of_violate h)
  · exact Host.Outcome.next.inj h ▸ .writes rfl (.inl ⟨rfl, rfl⟩)

theorem effect_bwWritestr (h : execBwWritestr s = .next t) : Effect s .bwWritestr t := by
  unfold execBwWritestr at h
  dsimp only at h
  split_ifs at h
  · exact .reports (ends_of_violate h)
  · exact .reports (ends_of_violate h)
  · exact Host.Outcome.next.inj h ▸ .writes rfl (.inl ⟨rfl, rfl⟩)

theorem effect_bwFinal (h : execBwFinal s = .next t) : Effect s .bwFinal t := by
  unfold execBwFinal at h
  split at h
  · exact .reports (ends_of_violate h)
  · exact Host.Outcome.next.inj h ▸ .finalizes _ _

/-! ### Tables, headers and the frame start -/

theorem effect_ctDecode {i : Instr} {dia : Dialect} (h : execCtDecode dia s = .next t) : Effect s i t := by
  unfold execCtDecode at h
  split at h
  · exact .reports (ends_of_finish h)
  · exact .reports (ends_of_violate h)

theorem effect_ctEncode {i : Instr} {dia : Dialect} (h : execCtEncode dia s = .next t) : Effect s i t := by
  unfold execCtEncode at h
  dsimp only at h
  split at h
  · exact .reports (ends_of_finish h)
  · exact .reports (ends_of_violate h)

theorem effect_hdrIdentify (h : execHdrIdentify s = .next t) : Effect s .hdrIdentify t := by
  unfold execHdrIdentify at h
  dsimp only at h
  split at h
  · exact .reports (ends_of_violate h)
  · split at h
    · exact .identifies (ends_of_finish h)
    · exact .identifies (ends_of_raise excNotRecognized_known h)

theorem effect_decStart {fmt : BitVec 3} (h : execDecStart fmt s = .next t) : Effect s (.decStart fmt) t := by
  unfold execDecStart at h
  split at h
  · exact .reports (ends_of_violate h)
  · split at h
    · next haccepts => exact Host.Outcome.next.inj h ▸ .startsFrame fmt haccepts
    · exact .reports (ends_of_violate h)

/-! ### Encodes and searches -/

/-- A refused operand record writes no register of the encoder or the searcher. -/
theorem effect_refusedJob {i : Instr} (hi : isEncoding i = true)
    (h : (.next (s.raise .encoder (excContract .badOperand)) : Result) = .next t) : Effect s i t :=
  .encodes (x := s.srch) (st := encSt s) hi (.inl rfl) (.inl rfl) (encodeEnds_of_raise (excContract_known _) h)

theorem effect_encFrame {fmt : BitVec 3} (h : execEncFrame fmt s = .next t) : Effect s (.encFrame fmt) t := by
  unfold execEncFrame at h
  split at h
  · exact .reports (ends_of_violate h)
  · next f _ =>
    obtain ⟨hregs, hexc⟩ := encodeFrame_ends (frameJob_alignOk f s.host.operands) (encSt s)
    dsimp only at h
    split at h
    · exact effect_refusedJob rfl h
    · split at h
      · next st bytes henc =>
        rw [henc] at hregs
        exact .encodes (x := s.srch) rfl (.inl rfl) hregs (encodeEnds_of_finish h)
      · next st e henc =>
        rw [henc] at hregs hexc
        exact .encodes (x := s.srch) rfl (.inl rfl) hregs (encodeEnds_of_raise (hexc e rfl) h)

theorem isEncoding_of_isSearch {i : Instr} (h : isSearch i = true) : isEncoding i = true := by
  cases i with
  | srchSingle _ | srchPartial _ | srchLain | srchIki => rfl
  | _ => nomatch h

/-- A search that ran ends with its own registers and those of its attempts. -/
theorem effect_search {i : Instr} {b : Nat} {x : SearchSt} (hi : isSearch i = true) (hx : SearchRuns (encSt s) b x)
    (h : EncodeEnds ((s.clearErr.withSrch x.srch).withEncSt x.st) t) : Effect s i t :=
  .encodes (isEncoding_of_isSearch hi) (.inr ⟨hi, hx.srch⟩) hx.regs h

theorem effect_searchFrom {i : Instr} {a : Nat} {f : Format} (hi : isSearch i = true)
    (h : (.next (endSearch s (searchFrom a f s)) : Result) = .next t) : Effect s i t := by
  obtain ⟨hruns, hwithin⟩ := searchFrom_runs a f s
  refine effect_search hi hruns ?_
  unfold endSearch at h
  dsimp only at h
  split at h
  · exact encodeEnds_of_finish h
  · exact encodeEnds_of_finish (bytes := []) h
  · next e hres =>
    rw [hres] at hwithin
    exact encodeEnds_of_raise hwithin h

theorem effect_srchSingle {fmt : BitVec 3} (h : execSrchSingle fmt s = .next t) : Effect s (.srchSingle fmt) t := by
  unfold execSrchSingle at h
  split at h
  · exact .reports (ends_of_violate h)
  · split at h
    · exact effect_refusedJob rfl h
    · exact effect_searchFrom rfl h

theorem effect_srchPartial {fmt : BitVec 3} (h : execSrchPartial fmt s = .next t) : Effect s (.srchPartial fmt) t := by
  unfold execSrchPartial at h
  split at h
  · exact .reports (ends_of_violate h)
  · split at h
    · exact effect_refusedJob rfl h
    · exact effect_searchFrom rfl h

theorem effect_srchLain (h : execSrchLain s = .next t) : Effect s .srchLain t := by
  obtain ⟨hruns, hknown⟩ := lainLoop_runs (job := lainJob s.host.operands)
    (fun _ _ => frameJob_alignOk .lain s.host.operands) 125 1 1 (by decide) (by decide)
    (searchRuns_searchStart (encSt s) s.host.operands.budget)
  refine effect_search rfl hruns ?_
  unfold execSrchLain at h
  dsimp only at h
  split at h
  · exact encodeEnds_of_finish h
  · exact encodeEnds_of_finish (bytes := []) h
  · next e hres =>
    rw [hres] at hknown
    exact encodeEnds_of_raise hknown h

theorem effect_srchIki (h : execSrchIki s = .next t) : Effect s .srchIki t := by
  obtain ⟨hphase, hwithin⟩ := searchFrom_runs 1 .iki s
  obtain ⟨hruns, hresult⟩ := ikiSearch_runs hphase hwithin
  unfold execSrchIki at h
  dsimp only at h
  split at h
  · exact effect_refusedJob rfl h
  · refine effect_search rfl hruns ?_
    split at h
    · exact encodeEnds_of_finish h
    · exact encodeEnds_of_finish (bytes := []) h
    · next e hres =>
      rw [hres] at hresult
      exact encodeEnds_of_raise hresult h

/-! ### The LZSS unit -/

theorem effect_lzDecomp (h : execLzDecomp s = .next t) : Effect s .lzDecomp t := by
  unfold execLzDecomp at h
  dsimp only at h
  split at h
  · exact .reports (ends_of_violate h)
  · refine .unpacks (x := lzRegs (lzDecomp Config.lzssFlagOrder (lzSource s.host.operands) s.host.operands.dsize).1)
      (.inl rfl) (lzLoop_flagI_le _ _ _ 0 _ (Nat.zero_le 8)) (Memory.ofBytes_wf _) ?_
    split at h
    · exact ends_of_finish h
    · exact ends_of_raise (excLzss_known _) h

theorem effect_lzComp (h : execLzComp s = .next t) : Effect s .lzComp t :=
  .unpacks (.inr rfl) (Nat.zero_le 8) rfl (ends_of_finish h)

/-- A byte token answers only where the unit reads one. -/
theorem lzToken_next {r : Result} (h : lzToken s r = .next t) : r = .next t := by
  unfold lzToken at h
  split at h
  · exact h
  · nomatch h

theorem effect_lzRaise {i : Instr} {used : Nat} {f : LzFault} (hi : isLzss i = true) (h : lzRaise s used f = .next t) :
    Effect s i t :=
  .takesByte (x := { s.lz with sp := s.lz.sp + used }) hi rfl (.inl rfl) (ends_of_raise (excLzss_known f) h)

theorem effect_lzFlag {f : BitVec 8} (h : execLzFlag f s = .next t) : Effect s (.lzFlag f) t := by
  have h := lzToken_next h
  split at h
  · exact .takesByte (x := { s.lz with sp := s.lz.sp + 1, flags := f }) rfl rfl (.inl rfl) (ends_of_finish h)
  · exact effect_lzRaise rfl h

theorem effect_lzLiteral {c : BitVec 8} (h : execLzLiteral c s = .next t) : Effect s (.lzLiteral c) t := by
  have h := lzToken_next h
  split at h
  · exact .takesByte (x := lzRegs (lzPutLiteral c (lzWork s.lz))) rfl rfl (.inr (Memory.ofBytes_wf _)) (ends_of_finish h)
  · exact effect_lzRaise rfl h

theorem effect_lzCopyToken {i : Instr} {used len dist : Nat} (hi : isLzss i = true)
    (h : lzCopyToken used len dist s = .next t) : Effect s i t := by
  unfold lzCopyToken at h
  rcases lzPutCopy_cases s.host.operands.dsize len dist { lzWork s.lz with sp := s.lz.sp + used } with
    ⟨-, hc⟩ | ⟨-, -, hc⟩ | ⟨-, -, hc⟩ <;> rw [hc] at h
  · exact .takesByte (x := lzRegs _) hi rfl (.inr (Memory.ofBytes_wf _)) (ends_of_raise (excLzss_known _) h)
  · exact .takesByte (x := lzRegs _) hi rfl (.inr (Memory.ofBytes_wf _)) (ends_of_raise (excLzss_known _) h)
  · exact .takesByte (x := lzRegs _) hi rfl (.inr (Memory.ofBytes_wf _)) (ends_of_finish h)

theorem effect_lzBackrefShort {len : BitVec 8} {off : BitVec 7} (h : execLzBackrefShort len off s = .next t) :
    Effect s (.lzBackrefShort len off) t := by
  have h := lzToken_next h
  split_ifs at h
  · exact effect_lzRaise rfl h
  · exact effect_lzRaise rfl h
  · exact effect_lzCopyToken rfl h

theorem effect_lzBackrefLong {len : BitVec 8} {off : BitVec 15} (h : execLzBackrefLong len off s = .next t) :
    Effect s (.lzBackrefLong len off) t := by
  have h := lzToken_next h
  split_ifs at h
  · exact effect_lzRaise rfl h
  · exact effect_lzRaise rfl h
  · exact effect_lzRaise rfl h
  · exact effect_lzCopyToken rfl h

/-! ### Every instruction -/

/-- Whatever instruction answers a next state has one of these effects. -/
theorem exec_effect {i : Instr} (h : exec i s = .next t) : Effect s i t := by
  cases hi : isBitstreamToken i with
  | true => exact .decodes (by rw [isDecoding, hi, Bool.or_true]) (decodes_token hi h)
  | false =>
    cases i with
    | reset => exact Host.Outcome.next.inj h ▸ .resets
    | brInit pol => exact effect_brInit h
    | brReadu n => exact effect_readCommand (n := n) (view := fun v => some (v : Int)) rfl h
    | brReads n => exact effect_readCommand (n := n) (view := fun v => some (sext n.toNat v)) rfl h
    | brPeeku n => exact effect_peekCommand h
    | brPeeks n => exact effect_peekCommand h
    | brSkip n => exact effect_readCommand (n := n) (view := fun _ => none) rfl h
    | brBitsread => exact .reports (ends_of_finish h)
    | brBitsrem => exact .reports (ends_of_finish h)
    | bwInit pol al => exact effect_bwInit h
    | bwWritev n => exact effect_bwWritev h
    | bwWritestr => exact effect_bwWritestr h
    | bwFinal => exact effect_bwFinal h
    | ctDecode dia => exact effect_ctDecode h
    | ctEncode dia => exact effect_ctEncode h
    | hdrIdentify => exact effect_hdrIdentify h
    | decStart fmt => exact effect_decStart h
    | decNext => exact .decodes rfl (Host.Outcome.next.inj h ▸ decodes_decNext s)
    | decStatus => exact .reports (ends_of_finish h)
    | encFrame fmt => exact effect_encFrame h
    | srchSingle fmt => exact effect_srchSingle h
    | srchPartial fmt => exact effect_srchPartial h
    | srchLain => exact effect_srchLain h
    | srchIki => exact effect_srchIki h
    | lzDecomp => exact effect_lzDecomp h
    | lzComp => exact effect_lzComp h
    | lzFlag f => exact effect_lzFlag h
    | lzLiteral c => exact effect_lzLiteral h
    | lzBackrefShort len off => exact effect_lzBackrefShort h
    | lzBackrefLong len off => exact effect_lzBackrefLong h
    | _ => nomatch hi

end

end Sys2Proof.Machine
end

section
/-! PROOFS. 10_state.md R25 to R42: what every step keeps of each unit, and who may write it, read off the effects of the
instructions. -/

namespace Sys2Proof.Machine

section
variable {s t : State}

/-! ### The ends of a command -/

theorem Ends.same (h : Ends s t) : SameRegisters s t := by
  cases h with
  | answers r => exact ⟨rfl, rfl, rfl, rfl, rfl, rfl, rfl, rfl, rfl, rfl⟩
  | @raises e v _ => exact ⟨rfl, rfl, rfl, rfl, rfl, rfl, faultRecord_other e s.dec, rfl, rfl, rfl⟩

theorem EncodeEnds.same (h : EncodeEnds s t) : SameRegisters (s.withOut t.out) t := by
  cases h with
  | answers bytes r => exact ⟨rfl, rfl, rfl, rfl, rfl, rfl, rfl, rfl, rfl, rfl⟩
  | @raises e _ => exact ⟨rfl, rfl, rfl, rfl, rfl, rfl, faultRecord_encoder e s.dec, rfl, rfl, rfl⟩

theorem EncodeEnds.out_wf (h : EncodeEnds s t) : t.out.wf = true := by
  cases h with
  | answers bytes r => exact Memory.ofBytes_wf bytes
  | raises he => exact Memory.empty_wf

/-- A command's end leaves the error registers alone, or records the exception it reports. -/
theorem Ends.errRecorded (h : Ends s t) : t.err = s.err ∨ ∃ v, t.host.reply = .exception t.err.code t.err.info v := by
  cases h with
  | answers r => exact .inl rfl
  | raises v he => exact .inr ⟨v, rfl⟩

theorem EncodeEnds.errRecorded (h : EncodeEnds s t) :
    t.err = s.err ∨ ∃ v, t.host.reply = .exception t.err.code t.err.info v := by
  cases h with
  | answers bytes r => exact .inl rfl
  | raises he => exact .inr ⟨none, rfl⟩

theorem Ends.warnPadding (h : Ends s t) : t.err.warnPadding = s.err.warnPadding := by cases h <;> rfl

theorem EncodeEnds.warnPadding (h : EncodeEnds s t) : t.err.warnPadding = s.err.warnPadding := by cases h <;> rfl

/-! ### A step is the effect of an instruction -/

/-- What no write to the host's side disturbs and every effect of an instruction keeps, every step keeps: it waits, rejects
a word, or runs an instruction. -/
theorem step_keeps {P : State → Prop} (hhost : ∀ (s : State) (x : HostPort), P s → P (s.withHost x))
    (heffect : ∀ (s t : State) (i : Instr), Effect s i t → P s → P t) (h : step s = .next t) (hs : P s) : P t := by
  rcases step_cases s with ⟨-, hwait⟩ | ⟨c, rest, -, ⟨why, -, hreject⟩ | ⟨i, -, hexec⟩⟩
  · exact Host.Outcome.next.inj (hwait.symm.trans h) ▸ hs
  · have hends := ends_of_raise (excContract_known _) (hreject.symm.trans h)
    -- a rejected word ends as any refused command does
    exact heffect _ t .decStatus (.reports hends) (hhost s _ hs)
  · exact heffect _ t i (exec_effect (hexec.symm.trans h)) (hhost s _ hs)

/-! ### Byte spaces and reader (O57) -/

theorem SameRegisters.spacesOk (h : SameRegisters s t) (hs : SpacesOk s) : SpacesOk t := by
  obtain ⟨hframe, htable, hout, hlz, henc, hsize, hencSize⟩ := hs
  rw [← h.frame] at hframe
  rw [← h.ikiTable] at htable
  rw [← h.out] at hout
  rw [← h.lz] at hlz
  rw [← h.enc] at henc hencSize
  rw [← h.ikiTable, ← h.cfg] at hsize
  exact ⟨hframe, htable, hout, hlz, henc, hsize, hencSize⟩

/-- A frame that is accepted brings an Iki table of the right size, or none (43_decoder.md R186). -/
theorem spacesOk_startFrame {f : Format} {p : FrameParams} (hs : SpacesOk s) (h : acceptsFrame f p = true) :
    SpacesOk (startFrame f p s) := by
  simp only [acceptsFrame, Bool.and_eq_true, Bool.or_eq_true, bne_iff_ne, beq_iff_eq] at h
  obtain ⟨-, htable⟩ := h
  constructor <;> simp only [startFrame, frameConfig]
  case frame => exact Memory.ofBytes_wf _
  case ikiTable => split <;> simp
  case out => exact hs.out
  case lzDst => exact hs.lzDst
  case encTable => exact hs.encTable
  case ikiTableSize =>
    by_cases hiki : f = .iki
    · simpa [hiki] using htable.resolve_left (fun hne => hne hiki)
    · simp [hiki, Memory.empty]
  case encTableSize => exact hs.encTableSize

theorem Effect.spacesOk {i : Instr} (h : Effect s i t) (hs : SpacesOk s) : SpacesOk t := by
  cases h with
  | reports h => exact h.same.spacesOk hs
  | identifies h => exact h.same.spacesOk { hs with }
  | reads _ _ _ h => exact h.same.spacesOk { hs with }
  | decodes _ h => exact h.same.spacesOk { hs with }
  | resets => exact ⟨rfl, rfl, rfl, rfl, rfl, rfl, rfl⟩
  | loads => exact { hs with frame := Memory.ofBytes_wf _ }
  | writes => exact { hs with }
  | finalizes bytes => exact { hs with out := Memory.ofBytes_wf bytes }
  | startsFrame fmt hacc => exact { spacesOk_startFrame hs hacc with }
  | encodes _ _ hst h =>
    refine h.same.spacesOk ?_
    rcases hst with rfl | hruns
    · exact { hs with out := h.out_wf }
    · exact { hs with out := h.out_wf, encTable := hruns.tableWf, encTableSize := hruns.tableSize }
  | unpacks _ _ hdst h => exact h.same.spacesOk { hs with lzDst := hdst }
  | takesByte _ _ hdst h =>
    refine h.same.spacesOk { hs with lzDst := ?_ }
    rcases hdst with hsame | hwf
    · exact (congrArg Memory.wf hsame).trans hs.lzDst
    · exact hwf

theorem SameRegisters.readerOk (h : SameRegisters s t) (hs : ReaderOk s) : ReaderOk t := by
  rw [readerOk_iff, h.frame, h.rd, ← readerOk_iff]
  exact hs

theorem readerOk_readerAt {f : Memory} {start stop : Nat} (pol : Policy) (hframe : s.frame = f)
    (hrd : s.rd = readerAt start stop pol) (hspan : start ≤ stop ∧ stop ≤ f.size) : ReaderOk s := by
  rw [readerOk_iff, hframe, hrd]
  exact readerAt_ok f start stop pol hspan.1 hspan.2

theorem Effect.readerOk {i : Instr} (h : Effect s i t) (hs : ReaderOk s) : ReaderOk t := by
  have hr := (readerOk_iff s).1 hs
  cases h with
  | reports h => exact h.same.readerOk hs
  | identifies h => exact h.same.readerOk { hs with }
  | reads n _ _ h => exact h.same.readerOk ((readerOk_iff _).2 (readBits_ok _ _ n hr))
  | decodes _ h => exact h.same.readerOk ((readerOk_iff _).2 (h.reads.cursorOk hr))
  | resets => exact readerOk_readerAt (start := 0) (stop := 0) .le16 rfl rfl ⟨le_rfl, le_rfl⟩
  | loads pol hspan _ => exact readerOk_readerAt pol rfl rfl hspan
  | writes | finalizes => exact { hs with }
  | startsFrame fmt hacc =>
    simp only [acceptsFrame, legalSpan, Bool.and_eq_true, decide_eq_true_eq] at hacc
    obtain ⟨⟨⟨-, hspan⟩, -⟩, -⟩ := hacc
    exact readerOk_readerAt _ rfl rfl hspan
  | encodes _ _ _ h => exact h.same.readerOk { hs with }
  | unpacks _ _ _ h => exact h.same.readerOk { hs with }
  | takesByte _ _ _ h => exact h.same.readerOk { hs with }

/-! ### Decoder and error registers (O58) -/

/-- A frame start: no block behind it, and the first state fits the number of blocks (43_decoder.md R186, R210). -/
theorem decoderOk_startFrame (f : Format) (p : FrameParams) (s : State) : DecoderOk (startFrame f p s) := by
  have hstate : (startFrame f p s).dec.state = firstState f p.mbCount := rfl
  have hfirst : (0 < p.mbCount ∧ firstState f p.mbCount = .blockStart) ∨
      (p.mbCount = 0 ∧ (padTail f).isSome = true ∧ firstState f p.mbCount = .padding) ∨
      (p.mbCount = 0 ∧ firstState f p.mbCount = .done) := by
    unfold firstState
    split_ifs with hmb htail
    · exact .inl ⟨hmb, rfl⟩
    · exact .inr (.inl ⟨by omega, htail, rfl⟩)
    · exact .inr (.inr ⟨by omega, rfl⟩)
  have hfits : blocksFit (startFrame f p s) := by
    rw [blocksFit, hstate]
    rcases hfirst with ⟨hmb, hst⟩ | ⟨hmb, htail, hst⟩ | ⟨hmb, hst⟩ <;> rw [hst]
    · exact ⟨Nat.mul_pos (by decide) hmb, rfl⟩
    · exact ⟨congrArg (6 * ·) hmb.symm, htail⟩
    · exact congrArg (6 * ·) hmb.symm
  have hleft : (startFrame f p s).dec.state ≠ .midBlock ∧ (startFrame f p s).dec.state ≠ .fault := by
    rw [hstate]
    rcases hfirst with ⟨-, hst⟩ | ⟨-, -, hst⟩ | ⟨-, hst⟩ <;> simp [hst]
  refine ⟨Nat.zero_lt_succ 5, rfl, ?_, Nat.zero_lt_succ 63, hfits, rfl, rfl, rfl, ?_, fun hc => absurd rfl hc⟩
  · rw [if_neg hleft.1]
    exact le_rfl
  · rw [if_neg hleft.2]
    exact ⟨rfl, rfl⟩

theorem decoderOk_reset (s : State) : DecoderOk (resetRegisters s) :=
  ⟨Nat.zero_lt_succ 5, rfl, Nat.le_refl 0, Nat.zero_lt_succ 63, rfl, rfl, rfl, rfl, ⟨rfl, rfl⟩, fun hc => absurd rfl hc⟩

theorem Effect.decoderOk {i : Instr} (h : Effect s i t) (hd : DecoderOk s) : DecoderOk t := by
  cases h with
  | reports h | identifies h | reads _ _ _ h | encodes _ _ _ h | unpacks _ _ _ h | takesByte _ _ _ h =>
    exact hd.congr h.same.dec h.same.cfg
  | loads | writes | finalizes => exact hd.congr rfl rfl
  | resets => exact (decoderOk_reset s).congr rfl rfl
  | @startsFrame _ f p _ => exact (decoderOk_startFrame f p s).congr rfl rfl
  | decodes _ h => exact h.decoderOk hd

/-- ERR_CODE and ERR_INFO cleared are sound error registers (10_state.md R42). -/
theorem errorsOk_clearErr (he : ErrorsOk s) : ErrorsOk s.clearErr := ⟨Nat.zero_le 7, fun _ => rfl, he.warning⟩

theorem Ends.errorsOk (h : Ends s t) (he : ErrorsOk s) : ErrorsOk t := by
  cases h with
  | answers r => exact he.congr rfl rfl
  | raises v hknown => exact errorsOk_raise he hknown

theorem EncodeEnds.errorsOk (h : EncodeEnds s t) (he : ErrorsOk s) : ErrorsOk t := by
  cases h with
  | answers bytes r => exact he.congr rfl rfl
  | raises hknown => exact errorsOk_raise he hknown

theorem Effect.errorsOk {i : Instr} (h : Effect s i t) (hd : DecoderOk s) (he : ErrorsOk s) : ErrorsOk t := by
  have hclear := errorsOk_clearErr he
  cases h with
  | reports h => exact h.errorsOk he
  | identifies h => exact h.errorsOk hclear
  | reads _ _ _ h => exact h.errorsOk (he.congr rfl rfl)
  | encodes _ _ _ h => exact h.errorsOk (hclear.congr rfl rfl)
  | unpacks _ _ _ h => exact h.errorsOk (hclear.congr rfl rfl)
  | takesByte _ _ _ h => exact h.errorsOk (he.congr rfl rfl)
  | loads | writes | finalizes => exact he.congr rfl rfl
  | resets | startsFrame => exact ⟨Nat.zero_le 7, fun _ => rfl, fun hw => (nomatch hw), fun hp => (nomatch hp)⟩
  | decodes _ h => exact h.errorsOk hd he

/-! ### Writer, encoder, searcher and LZSS unit (O59) -/

theorem Effect.writerOk {i : Instr} (h : Effect s i t) (hw : WriterOk s) : WriterOk t := by
  have keep {t : State} (hwr : t.wr = s.wr) : WriterOk t := by rwa [WriterOk, hwr]
  cases h with
  | reports h | identifies h | reads _ _ _ h | decodes _ h | unpacks _ _ _ h | takesByte _ _ _ h => exact keep h.same.wr
  | loads | startsFrame => exact keep rfl
  | resets => exact fun _ hal => nomatch hal
  | writes _ hnew =>
    rcases hnew with ⟨hpol, hal⟩ | hlegal
    · exact fun hp => hal ▸ hw (hpol ▸ hp)
    · exact hlegal
  | finalizes => exact hw
  | encodes _ _ hst h =>
    rw [WriterOk, h.same.wr]
    rcases hst with rfl | hruns
    · exact hw
    · exact hruns.writer

theorem EncoderOk.congr (h : EncoderOk s) (henc : t.enc = s.enc) : EncoderOk t := by
  obtain ⟨h1, h2, h3, h4, h5, h6⟩ := h
  rw [← henc] at h1 h2 h3 h4 h5 h6
  exact ⟨h1, h2, h3, h4, h5, h6⟩

theorem Effect.encoderOk {i : Instr} (h : Effect s i t) (he : EncoderOk s) : EncoderOk t := by
  cases h with
  | reports h | identifies h | reads _ _ _ h | decodes _ h | unpacks _ _ _ h | takesByte _ _ _ h =>
    exact he.congr h.same.enc
  | loads | startsFrame | writes | finalizes => exact he.congr rfl
  | resets => exact ⟨rounded_zero, rounded_zero, rounded_zero, rfl, le_rfl, le_rfl⟩
  | @encodes _ _ x st _ _ hst h =>
    have hwritten : EncoderOk (((s.clearErr.withSrch x).withEncSt st).withOut t.out) := by
      rcases hst with rfl | hruns
      · exact he.congr rfl
      · exact { hruns with }
    exact hwritten.congr h.same.enc

theorem Effect.searcherOk {i : Instr} (h : Effect s i t) (hs : SearcherOk s) : SearcherOk t := by
  rw [searcherOk_iff] at hs ⊢
  have keep {t : State} (hsrch : t.srch = s.srch) : t.srch.Ok := hsrch ▸ hs
  cases h with
  | reports h | identifies h | reads _ _ _ h | decodes _ h | unpacks _ _ _ h | takesByte _ _ _ h =>
    exact keep h.same.srch
  | loads | startsFrame | writes | finalizes => exact hs
  | resets => exact ⟨Nat.zero_le _, Nat.zero_le _, Nat.zero_le _, fun _ hb => nomatch hb⟩
  | encodes _ hx _ h =>
    rw [h.same.srch]
    rcases hx with rfl | ⟨-, hok⟩
    · exact hs
    · exact hok

theorem Effect.lzOk {i : Instr} (h : Effect s i t) (hl : LzOk s) : LzOk t := by
  have keep {t : State} (hlz : t.lz = s.lz) : LzOk t := by rwa [LzOk, hlz]
  cases h with
  | reports h | identifies h | reads _ _ _ h | decodes _ h | encodes _ _ _ h => exact keep h.same.lz
  | loads | startsFrame | writes | finalizes => exact hl
  | resets => exact Nat.zero_le 8
  | unpacks _ hflag _ h =>
    rw [LzOk, h.same.lz]
    exact hflag
  | takesByte _ hflag _ h =>
    rw [LzOk, h.same.lz]
    exact hflag.trans_le hl

/-! ### Owners (O39) -/

variable {i : Instr}

theorem Effect.cfg_owner (h : Effect s i t) : (t.cfg = s.cfg ∧ t.ikiTable = s.ikiTable) ∨ startsAfresh i = true := by
  cases h with
  | resets | startsFrame => exact .inr rfl
  | reports h | identifies h | reads _ _ _ h | decodes _ h | encodes _ _ _ h | unpacks _ _ _ h | takesByte _ _ _ h =>
    exact .inl ⟨h.same.cfg, h.same.ikiTable⟩
  | loads | writes | finalizes => exact .inl ⟨rfl, rfl⟩

theorem Effect.dec_owner (h : Effect s i t) :
    (t.dec = s.dec ∧ t.err.warnPadding = s.err.warnPadding) ∨ startsAfresh i = true ∨ isDecoding i = true := by
  cases h with
  | resets | startsFrame => exact .inr (.inl rfl)
  | decodes hi _ => exact .inr (.inr hi)
  | reports h | identifies h | reads _ _ _ h | encodes _ _ _ h | unpacks _ _ _ h | takesByte _ _ _ h =>
    exact .inl ⟨h.same.dec, h.warnPadding⟩
  | loads | writes | finalizes => exact .inl ⟨rfl, rfl⟩

theorem Effect.frame_owner (h : Effect s i t) :
    t.frame = s.frame ∨ startsAfresh i = true ∨ ∃ pol, i = .brInit pol := by
  cases h with
  | resets | startsFrame => exact .inr (.inl rfl)
  | loads pol => exact .inr (.inr ⟨pol, rfl⟩)
  | reports h | identifies h | reads _ _ _ h | decodes _ h | encodes _ _ _ h | unpacks _ _ _ h | takesByte _ _ _ h =>
    exact .inl h.same.frame
  | writes | finalizes => exact .inl rfl

theorem Effect.rd_owner (h : Effect s i t) :
    t.rd = s.rd ∨ startsAfresh i = true ∨ isDecoding i = true ∨ (movesCursor i = true ∧ decodeActive s = false) := by
  cases h with
  | resets | startsFrame => exact .inr (.inl rfl)
  | decodes hi _ => exact .inr (.inr (.inl hi))
  | loads pol _ hidle => exact .inr (.inr (.inr ⟨rfl, hidle⟩))
  | reads _ hi hidle _ => exact .inr (.inr (.inr ⟨hi, hidle⟩))
  | reports h | identifies h | encodes _ _ _ h | unpacks _ _ _ h | takesByte _ _ _ h => exact .inl h.same.rd
  | writes | finalizes => exact .inl rfl

theorem Effect.wr_owner (h : Effect s i t) : t.wr = s.wr ∨ i = .reset ∨ isWriting i = true ∨ isEncoding i = true := by
  cases h with
  | resets => exact .inr (.inl rfl)
  | writes hi _ => exact .inr (.inr (.inl hi))
  | finalizes => exact .inr (.inr (.inl rfl))
  | encodes hi _ _ _ => exact .inr (.inr (.inr hi))
  | reports h | identifies h | reads _ _ _ h | decodes _ h | unpacks _ _ _ h | takesByte _ _ _ h => exact .inl h.same.wr
  | loads | startsFrame => exact .inl rfl

theorem Effect.out_owner (h : Effect s i t) : t.out = s.out ∨ i = .reset ∨ i = .bwFinal ∨ isEncoding i = true := by
  cases h with
  | resets => exact .inr (.inl rfl)
  | finalizes => exact .inr (.inr (.inl rfl))
  | encodes hi _ _ _ => exact .inr (.inr (.inr hi))
  | reports h | identifies h | reads _ _ _ h | decodes _ h | unpacks _ _ _ h | takesByte _ _ _ h => exact .inl h.same.out
  | loads | startsFrame | writes => exact .inl rfl

theorem Effect.enc_owner (h : Effect s i t) : t.enc = s.enc ∨ i = .reset ∨ isEncoding i = true := by
  cases h with
  | resets => exact .inr (.inl rfl)
  | encodes hi _ _ _ => exact .inr (.inr hi)
  | reports h | identifies h | reads _ _ _ h | decodes _ h | unpacks _ _ _ h | takesByte _ _ _ h => exact .inl h.same.enc
  | loads | startsFrame | writes | finalizes => exact .inl rfl

theorem Effect.srch_owner (h : Effect s i t) : t.srch = s.srch ∨ i = .reset ∨ isSearch i = true := by
  cases h with
  | resets => exact .inr (.inl rfl)
  | encodes _ hx _ h =>
    rcases hx with rfl | ⟨hi, -⟩
    · exact .inl h.same.srch
    · exact .inr (.inr hi)
  | reports h | identifies h | reads _ _ _ h | decodes _ h | unpacks _ _ _ h | takesByte _ _ _ h => exact .inl h.same.srch
  | loads | startsFrame | writes | finalizes => exact .inl rfl

theorem Effect.lz_owner (h : Effect s i t) : t.lz = s.lz ∨ i = .reset ∨ isLzss i = true := by
  cases h with
  | resets => exact .inr (.inl rfl)
  | unpacks hi _ _ _ => exact .inr (.inr (by rcases hi with rfl | rfl <;> rfl))
  | takesByte hi _ _ _ => exact .inr (.inr hi)
  | reports h | identifies h | reads _ _ _ h | decodes _ h | encodes _ _ _ h => exact .inl h.same.lz
  | loads | startsFrame | writes | finalizes => exact .inl rfl

/-- ERR_CODE and ERR_INFO hold what they held, the exception reported, or 0 by a command that clears them (10_state.md
R42, log 7). -/
theorem Effect.err_owner (h : Effect s i t) :
    (t.err.code = s.err.code ∧ t.err.info = s.err.info) ∨
    (∃ v, t.host.reply = .exception t.err.code t.err.info v) ∨
    (t.err.code = 0 ∧ t.err.info = 0 ∧
      (startsAfresh i = true ∨ isEncoding i = true ∨ i = .lzDecomp ∨ i = .lzComp ∨ i = .hdrIdentify)) := by
  have kept {t : State} (herr : t.err = s.err) : t.err.code = s.err.code ∧ t.err.info = s.err.info := by simp [herr]
  have cleared {t : State} (herr : t.err = s.clearErr.err) : t.err.code = 0 ∧ t.err.info = 0 := by simp [herr]
  cases h with
  | resets | startsFrame => exact .inr (.inr ⟨rfl, rfl, .inl rfl⟩)
  | loads | writes | finalizes => exact .inl ⟨rfl, rfl⟩
  | decodes _ h => exact h.errRecorded.elim .inl fun hr => .inr (.inl hr)
  | reports h | reads _ _ _ h | takesByte _ _ _ h =>
    exact h.errRecorded.elim (fun he => .inl (kept he)) fun hr => .inr (.inl hr)
  | identifies h =>
    rcases h.errRecorded with he | hr
    · exact .inr (.inr ⟨(cleared he).1, (cleared he).2, .inr (.inr (.inr (.inr rfl)))⟩)
    · exact .inr (.inl hr)
  | encodes hi _ _ h =>
    rcases h.errRecorded with he | hr
    · exact .inr (.inr ⟨(cleared he).1, (cleared he).2, .inr (.inl hi)⟩)
    · exact .inr (.inl hr)
  | unpacks hi _ _ h =>
    rcases h.errRecorded with he | hr
    · exact .inr (.inr ⟨(cleared he).1, (cleared he).2, .inr (.inr (hi.elim .inl fun hc => .inr (.inl hc)))⟩)
    · exact .inr (.inl hr)

end

/-! ### The obligations -/

/-- Settles O57: every effect keeps the byte spaces canonical and the reader inside its stream. -/
theorem stepKeepsSpacesAndReader : Obligations.StepKeepsSpacesAndReader := by
  intro s t h hspaces hreader
  refine step_keeps (P := fun s => SpacesOk s ∧ ReaderOk s) ?_ ?_ h ⟨hspaces, hreader⟩
  · exact fun _ _ ⟨hs, hr⟩ => ⟨{ hs with }, { hr with }⟩
  · exact fun _ _ _ he ⟨hs, hr⟩ => ⟨he.spacesOk hs, he.readerOk hr⟩

/-- Settles O58: every effect keeps the decode context, the state machine and the error registers sound. -/
theorem stepKeepsDecoder : Obligations.StepKeepsDecoder := by
  intro s t h hdecoder herrors
  refine step_keeps (P := fun s => DecoderOk s ∧ ErrorsOk s) ?_ ?_ h ⟨hdecoder, herrors⟩
  · exact fun _ _ ⟨hd, he⟩ => ⟨hd.congr rfl rfl, he.congr rfl rfl⟩
  · exact fun _ _ _ h ⟨hd, he⟩ => ⟨h.decoderOk hd, h.errorsOk hd he⟩

/-- Settles O59: every effect keeps the writer, the encoder, the searcher and the LZSS unit sound. -/
theorem stepKeepsEncoderSide : Obligations.StepKeepsEncoderSide := by
  intro s t h hwriter hencoder hsearcher hlz
  refine step_keeps (P := fun s => WriterOk s ∧ EncoderOk s ∧ SearcherOk s ∧ LzOk s) ?_ ?_ h
    ⟨hwriter, hencoder, hsearcher, hlz⟩
  · exact fun _ _ ⟨hw, he, hs, hl⟩ => ⟨hw, he.congr rfl, { hs with }, hl⟩
  · exact fun _ _ _ h ⟨hw, he, hs, hl⟩ => ⟨h.writerOk hw, h.encoderOk he, h.searcherOk hs, h.lzOk hl⟩

/-- Settles O39: each clause is the owner of one unit, read off the instruction's effect. -/
theorem onlyOwnersWrite : Obligations.OnlyOwnersWrite := by
  intro i s t hexec
  have h := exec_effect hexec
  refine ⟨fun hne => ?_, fun hne => ?_, h.frame_owner.resolve_left, h.rd_owner.resolve_left, h.wr_owner.resolve_left,
    h.out_owner.resolve_left, h.enc_owner.resolve_left, h.srch_owner.resolve_left, h.lz_owner.resolve_left,
    fun hne => ?_⟩
  · exact h.cfg_owner.resolve_left fun ⟨hcfg, htable⟩ => hne.elim (· hcfg) (· htable)
  · exact h.dec_owner.resolve_left fun ⟨hdec, hwarn⟩ => hne.elim (· hdec) (· hwarn)
  · exact h.err_owner.resolve_left fun ⟨hcode, hinfo⟩ => hne.elim (· hcode) (· hinfo)

end Sys2Proof.Machine
end

section
/-! PROOFS. 20_memory.md R62, R63, R66: a fresh reader's stream is the bytes of its span in logical order, over whole
words (O12). A loaded word is delivered as the bits of its two bytes, and the stream is followed word by word. -/

namespace Sys2Proof.Machine

/-! ### Bit strings of two parts (00_scope.md R10) -/

/-- A bit string splits into the bits of the high part and those of the low part. -/
theorem toBits_add (a b v : Nat) : toBits (a + b) v = toBits a (v / 2 ^ b) ++ toBits b v := by
  induction a with
  | zero => simp [toBits]
  | succ a ih =>
    rw [Nat.add_right_comm, toBits, toBits, ih, Nat.testBit_div_two_pow, List.cons_append]

/-- The bits of two joined words are the bits of the one, then those of the other. -/
theorem toBits_append {a b : Nat} (x : BitVec a) (y : BitVec b) :
    toBits (a + b) (x ++ y).toNat = toBits a x.toNat ++ toBits b y.toNat := by
  have hvalue : (x ++ y).toNat = y.toNat + x.toNat * 2 ^ b := by
    rw [BitVec.toNat_append, ← Nat.shiftLeft_add_eq_or_of_lt y.isLt, Nat.shiftLeft_eq, Nat.add_comm]
  have hhigh : (x ++ y).toNat / 2 ^ b = x.toNat := by
    rw [hvalue, Nat.add_mul_div_right _ _ (Nat.two_pow_pos b), Nat.div_eq_of_lt y.isLt, Nat.zero_add]
  have hlow : toBits b (x ++ y).toNat = toBits b y.toNat := by
    rw [← toBits_mod b b _ le_rfl, hvalue, Nat.add_mul_mod_self_right, toBits_mod b b _ le_rfl]
  rw [toBits_add, hhigh, hlow]

/-! ### The logical order of the bytes (20_memory.md R62) -/

/-- Where the j-th byte of the logical order stands: LE16 swaps the two bytes of each word. -/
def logicalIndex (pol : Policy) (j : Nat) : Nat := if pol = .le16 then j ^^^ 1 else j

/-- The byte order repeats from word to word. -/
theorem logicalIndex_add_two (pol : Policy) (j : Nat) : logicalIndex pol (j + 2) = logicalIndex pol j + 2 := by
  have hxor : (j + 2) ^^^ 1 = (j ^^^ 1) + 2 := by
    rcases Nat.even_or_odd j with heven | hodd
    · rw [Nat.xor_one_of_even heven, Nat.xor_one_of_even (heven.add even_two)]
    · have hpos := hodd.pos
      rw [Nat.xor_one_of_odd hodd, Nat.xor_one_of_odd (hodd.add_even even_two)]
      omega
  cases pol
  · exact hxor
  · rfl

/-- The word of a buffer at an address: its two bytes in logical order, the first the more significant. -/
def logicalWord (buffer : List Byte) (pol : Policy) (a : Nat) : BitVec 16 :=
  buffer.getD (a + logicalIndex pol 0) 0 ++ buffer.getD (a + logicalIndex pol 1) 0

/-- The bits of the first 2k bytes of the logical order from an address on. -/
def logicalBits (buffer : List Byte) (pol : Policy) (a k : Nat) : Bits :=
  (List.range (2 * k)).flatMap fun j => toBits 8 (buffer.getD (a + logicalIndex pol j) 0).toNat

/-- One word more is that word's bits, then the bits of the words after it. -/
theorem logicalBits_succ (buffer : List Byte) (pol : Policy) (a k : Nat) :
    logicalBits buffer pol a (k + 1) =
      toBits 16 (logicalWord buffer pol a).toNat ++ logicalBits buffer pol (a + 2) k := by
  have hword : toBits 16 (logicalWord buffer pol a).toNat =
      toBits 8 (buffer.getD (a + logicalIndex pol 0) 0).toNat ++
        toBits 8 (buffer.getD (a + logicalIndex pol 1) 0).toNat := toBits_append (a := 8) (b := 8) _ _
  have hafter : ∀ j, a + logicalIndex pol (j + 2) = a + 2 + logicalIndex pol j := fun j => by
    rw [logicalIndex_add_two]
    omega
  simp only [logicalBits, Nat.mul_succ, List.range_succ_eq_map, List.flatMap_cons, List.flatMap_map, List.map_cons,
    hword, hafter, List.append_assoc]

/-! ### The stream, word by word (40_bit_cursor.md R120 to R122) -/

/-- Inside FRAME a load reads the two bytes at the offset in logical order (40_bit_cursor.md R120). -/
theorem loadWord_ofBytes {buffer : List Byte} {r : ReaderRegs} (hword : r.offset + 2 ≤ r.stop)
    (hstop : r.stop ≤ buffer.length) :
    loadWord (Memory.ofBytes buffer) r =
      some { r with word := logicalWord buffer r.policy r.offset, offset := r.offset + 2, bitsLeft := 16 } := by
  have hbyte : ∀ a, a < buffer.length → (Memory.ofBytes buffer).read a = some (buffer.getD a 0) := fun a ha => by
    rw [read_ofBytes, List.getElem?_eq_getElem ha, List.getD_eq_getElem _ _ ha]
  rw [loadWord, if_neg (by omega), hbyte r.offset (by omega), hbyte (r.offset + 1) (by omega)]
  cases hpol : r.policy <;> simp [logicalWord, logicalIndex]

/-- The bits left of a loaded word come first, the most significant of them ahead (20_memory.md R66). -/
theorem streamBits_loaded (m : Memory) (n : Nat) (r : ReaderRegs) :
    streamBits m (r.bitsLeft + n) r =
      toBits r.bitsLeft r.word.toNat ++ streamBits m n { r with bitsLeft := 0 } := by
  obtain ⟨start, stop, pol, offset, word, left, eos⟩ := r
  induction left with
  | zero => simp [toBits]
  | succ left ih =>
    have htake : takeBit m ⟨start, stop, pol, offset, word, left + 1, eos⟩ =
        some (word.toNat.testBit left, ⟨start, stop, pol, offset, word, left, eos⟩) := rfl
    rw [show left + 1 + n = left + n + 1 by omega, streamBits, htake]
    simp only [toBits, List.cons_append, ih]

/-- With no bit of a word left, the next word is loaded and delivered whole (40_bit_cursor.md R121). -/
theorem streamBits_load {m : Memory} {r r' : ReaderRegs} (n : Nat) (hleft : r.bitsLeft = 0)
    (hload : loadWord m r = some r') :
    streamBits m (16 + n) r = toBits 16 r'.word.toNat ++ streamBits m n { r' with bitsLeft := 0 } := by
  have hfull : r'.bitsLeft = 16 := by
    obtain ⟨-, w, rfl⟩ := loadWord_some m r r' hload
    rfl
  have htake : takeBit m r = takeBit m r' := by simp [takeBit, hleft, hload, hfull]
  have hsame : streamBits m (16 + n) r = streamBits m (16 + n) r' := by
    rw [show 16 + n = 15 + n + 1 by omega, streamBits, streamBits, htake]
  have hloaded := streamBits_loaded m n r'
  rw [hfull] at hloaded
  rw [hsame, hloaded]

/-- At a word boundary the bits of the next k words of the span are those of its bytes in logical order. -/
theorem streamBits_words {buffer : List Byte} (k : Nat) {r : ReaderRegs} (hleft : r.bitsLeft = 0)
    (hwords : r.offset + 2 * k ≤ r.stop) (hstop : r.stop ≤ buffer.length) :
    streamBits (Memory.ofBytes buffer) (16 * k) r = logicalBits buffer r.policy r.offset k := by
  induction k generalizing r with
  | zero => simp [streamBits, logicalBits]
  | succ k ih =>
    have hload := loadWord_ofBytes (r := r) (by omega) hstop
    have hrest := ih (r := { r with
      word := logicalWord buffer r.policy r.offset, offset := r.offset + 2, bitsLeft := 0 }) rfl
      (show r.offset + 2 + 2 * k ≤ r.stop by omega) hstop
    rw [Nat.mul_succ, Nat.add_comm, streamBits_load _ hleft hload, logicalBits_succ, hrest]

/-- A fresh reader has the whole words of its span to deliver (10_state.md R28). -/
theorem bitsRemaining_readerAt (start stop : Nat) (pol : Policy) :
    bitsRemaining (readerAt start stop pol) = 16 * ((stop - start) / 2) := by
  simp [bitsRemaining, availTotal, bitsRead, readerAt]

/-- Settles O12: a fresh reader stands at a word boundary and has just the whole words of its span to deliver. -/
theorem logicalStream : Obligations.LogicalStream := by
  intro buffer start stop pol hspan hstop
  have hwords : start + 2 * ((stop - start) / 2) ≤ stop := by omega
  rw [remainingBits, bitsRemaining_readerAt]
  exact streamBits_words (r := readerAt start stop pol) _ rfl hwords hstop

end Sys2Proof.Machine
end

section
/-! PROOFS. 30_encoding.md R85 to R107: the decoder and the encoder are inverse to each other at every position of the
grammar (O1, O2), and the opcode map accepts and rejects every word as R103 and R104 say (O6, O7). -/

namespace Sys2Proof.Machine

/-! ### Codes that lie apart (30_encoding.md R88, R89) -/

/-- Neither bit string opens the other. -/
def Apart (a b : Bits) : Prop := ¬ a <+: b ∧ ¬ b <+: a

/-- What follows a given first bit. -/
def afterBit (b : Bool) : Bits → Option Bits
  | [] => none
  | x :: s => if x = b then some s else none

/-- The bit strings lie apart: their first bits split them into two lists that do, and so on for at most n bits. -/
def splitsApart : Nat → List Bits → Bool
  | 0, codes => decide (codes.length ≤ 1)
  | n + 1, codes =>
    decide (codes.length ≤ 1) || (codes.all (fun c => !c.isEmpty) &&
      splitsApart n (codes.filterMap (afterBit false)) && splitsApart n (codes.filterMap (afterBit true)))

theorem pairwise_apart_of_short {codes : List Bits} (h : codes.length ≤ 1) : codes.Pairwise Apart := by
  match codes, h with
  | [], _ => exact .nil
  | [c], _ => exact List.pairwise_singleton _ _

theorem pairwise_apart_of_splitsApart {n : Nat} {codes : List Bits} (h : splitsApart n codes = true) :
    codes.Pairwise Apart := by
  induction n generalizing codes with
  | zero => exact pairwise_apart_of_short (of_decide_eq_true h)
  | succ n ih =>
    simp only [splitsApart, Bool.or_eq_true, Bool.and_eq_true, List.all_eq_true, decide_eq_true_eq] at h
    obtain hshort | ⟨⟨hne, hfalse⟩, htrue⟩ := h
    · exact pairwise_apart_of_short hshort
    · have hboth := (List.pairwise_filterMap.1 (ih hfalse)).and (List.pairwise_filterMap.1 (ih htrue))
      refine hboth.imp_of_mem fun {a b} ha hb hab => ?_
      obtain ⟨x, a, rfl⟩ := List.exists_cons_of_ne_nil (l := a) (by simpa using hne a ha)
      obtain ⟨y, b, rfl⟩ := List.exists_cons_of_ne_nil (l := b) (by simpa using hne b hb)
      have hsame : x = y → Apart a b := by
        rintro rfl
        cases x
        · exact hab.1 a rfl b rfl
        · exact hab.2 a rfl b rfl
      simp only [Apart, List.cons_prefix_cons]
      exact ⟨fun ⟨hxy, h⟩ => (hsame hxy).1 h, fun ⟨hyx, h⟩ => (hsame hyx.symm).2 h⟩

/-- In a table of codes that lie apart just the entry that opens the bits is found. -/
theorem find?_isPrefixOf_iff {t : List Entry} (hapart : (t.map Entry.bits).Pairwise Apart) (w : Bits) (e : Entry) :
    (t.find? fun e => e.bits.isPrefixOf w) = some e ↔ e ∈ t ∧ e.bits <+: w := by
  induction t with
  | nil => simp
  | cons a t ih =>
    obtain ⟨hhead, htail⟩ := List.pairwise_cons.1 hapart
    rw [List.find?_cons]
    split
    · next ha =>
      rw [List.isPrefixOf_iff_prefix] at ha
      refine ⟨fun h => Option.some.inj h ▸ ⟨List.mem_cons_self, ha⟩, fun ⟨hmem, he⟩ => ?_⟩
      rcases List.mem_cons.1 hmem with rfl | hmem
      · rfl
      · obtain ⟨hae, hea⟩ := hhead e.bits (List.mem_map_of_mem hmem)
        exact absurd (List.prefix_or_prefix_of_prefix ha he) (not_or_intro hae hea)
    · next ha =>
      rw [ih htail]
      refine ⟨fun ⟨hmem, he⟩ => ⟨List.mem_cons_of_mem _ hmem, he⟩, fun ⟨hmem, he⟩ => ⟨?_, he⟩⟩
      rcases List.mem_cons.1 hmem with rfl | hmem
      · rw [← List.isPrefixOf_iff_prefix, ha] at he
        exact absurd he (by decide)
      · exact hmem

/-- What is read off the catalog by running through it: its strings split apart, its ordinals rise (30_encoding.md R87),
and every string has at most 17 bits and a one among its first twelve (R89). -/
theorem catalog_checked :
    splitsApart 17 (catalog.map Entry.bits) = true ∧ catalog.map Entry.ordinal = List.range 224 ∧
      codeInstrs.map Instr.ordinal = (List.range 224).map some ∧
      catalog.all (fun e => decide (e.bits.length ≤ 17)) = true ∧
      catalog.all (fun e => (e.bits.take 12).contains true) = true := by decide +kernel

theorem catalog_apart : (catalog.map Entry.bits).Pairwise Apart :=
  pairwise_apart_of_splitsApart catalog_checked.1

theorem catalogMatch_eq_some_iff (w : Bits) (e : Entry) : catalogMatch w = some e ↔ e ∈ catalog ∧ e.bits <+: w :=
  find?_isPrefixOf_iff catalog_apart w e

/-- The catalog lists its entries in ordinal order (30_encoding.md R87). -/
theorem catalog_ordinals : catalog.map Entry.ordinal = List.range 224 := catalog_checked.2.1

theorem ordinal_of_catalog {k : Nat} {e : Entry} (h : catalog[k]? = some e) : e.ordinal = k ∧ k < 224 := by
  have hk : (catalog.map Entry.ordinal)[k]? = some e.ordinal := by rw [List.getElem?_map, h]; rfl
  rw [catalog_ordinals] at hk
  obtain ⟨hlt, heq⟩ := List.getElem?_eq_some_iff.1 hk
  rw [List.getElem_range] at heq
  exact ⟨heq.symm, by simpa using hlt⟩

theorem catalog_of_mem {e : Entry} (h : e ∈ catalog) : catalog[e.ordinal]? = some e := by
  obtain ⟨k, hk⟩ := List.mem_iff_getElem?.1 h
  rwa [(ordinal_of_catalog hk).1]

theorem codeBits_of_mem {e : Entry} (h : e ∈ catalog) : codeBits e.ordinal = e.bits := by
  simp [codeBits, catalog_of_mem h]

theorem exists_catalog {k : Nat} (hk : k < 224) : ∃ e, catalog[k]? = some e := by
  have hlen := congrArg List.length catalog_ordinals
  rw [List.length_map, List.length_range] at hlen
  exact ⟨catalog[k], List.getElem?_eq_getElem (by omega)⟩

/-! ### The DC size codes (30_encoding.md R92) -/

theorem dcCodes_getElem {luma : Bool} {size : Nat} (h : size < (dcCodes luma).length) :
    (dcCodes luma)[size] = dcCode luma size := (List.getD_eq_getElem _ _ h).symm

theorem dcCodes_length (luma : Bool) : (dcCodes luma).length = 9 := by cases luma <;> rfl

/-- The DC size codes are told apart by their opening, whatever follows them. -/
theorem dcSize_append {luma : Bool} {size : Nat} (h : size < 9) (rest : Bits) :
    dcSize luma (dcCode luma size ++ rest) = some size := by
  interval_cases size <;> cases luma <;> rfl

/-- The size read is the one whose code opens the bits. -/
theorem dcSize_eq_some_iff (luma : Bool) (bits : Bits) (size : Nat) :
    dcSize luma bits = some size ↔ size < 9 ∧ dcCode luma size <+: bits := by
  constructor
  · intro h
    obtain ⟨hlt, hopens, -⟩ := List.findIdx?_eq_some_iff_getElem.1 h
    rw [dcCodes_getElem, List.isPrefixOf_iff_prefix] at hopens
    exact ⟨dcCodes_length luma ▸ hlt, hopens⟩
  · rintro ⟨hlt, rest, rfl⟩
    exact dcSize_append hlt rest

/-! ### Fields (30_encoding.md R86) -/

/-- A field of w bits is read exactly from bits that begin with a w-bit value. -/
theorem withField_eq_ok_iff {w : Nat} {bits rest : Bits} {k : BitVec w → Bits → Decoded} {i : Instr} :
    withField w bits k = .ok i rest ↔ ∃ x bits', bits = toBits w x.toNat ++ bits' ∧ k x bits' = .ok i rest := by
  constructor
  · intro h
    unfold withField at h
    split at h
    · next hw =>
      have hlen : (bits.take w).length = w := by simpa using hw
      have hlt := ofBits_lt (bits.take w)
      have hbits := toBits_ofBits (bits.take w)
      rw [hlen] at hlt hbits
      refine ⟨_, _, ?_, h⟩
      rw [BitVec.toNat_ofNat, Nat.mod_eq_of_lt hlt, hbits, List.take_append_drop]
    · nomatch h
  · rintro ⟨x, bits', rfl, hk⟩
    rw [withField_toBits, hk]

/-- A token that is one field is written by that field's value. -/
theorem of_withField_token {w : Nat} {bits rest : Bits} {token : BitVec w → Instr} {i : Instr}
    (h : (withField w bits fun x => .ok (token x)) = .ok i rest) : ∃ x, i = token x ∧ bits = toBits w x.toNat ++ rest := by
  obtain ⟨x, bits', rfl, hk⟩ := withField_eq_ok_iff.1 h
  cases hk
  exact ⟨x, rfl, rfl⟩

/-- A fixed tail is read exactly from bits that begin with it. -/
theorem fixedTail_eq_ok_iff {tail bits rest : Bits} {j i : Instr} :
    fixedTail tail j bits = .ok i rest ↔ j = i ∧ bits = tail ++ rest := by
  constructor
  · intro h
    unfold fixedTail at h
    split at h
    · nomatch h
    · split at h
      · next heq =>
        cases h
        exact ⟨rfl, by conv_lhs => rw [← List.take_append_drop tail.length bits, heq]⟩
      · nomatch h
  · rintro ⟨rfl, rfl⟩
    simp [fixedTail]

/-! ### Commands (30_encoding.md R103, R104) -/

/-- Every command is written as a word that decodes to it, whatever the values of its fields. -/
theorem exists_word_of_command {i : Instr} (h : i.position = .command) :
    ∃ w : BitVec 16, encode i = toBits 16 w.toNat ∧ decodeCommand w = .run i := by
  cases i with
  | reset | brBitsread | brBitsrem | bwWritestr | bwFinal | hdrIdentify | decNext | decStatus | srchLain | srchIki
  | lzDecomp | lzComp => exact ⟨_, rfl, by decide⟩
  | brInit pol => exact ⟨_, rfl, by cases pol <;> decide⟩
  | ctDecode dia | ctEncode dia => exact ⟨_, rfl, by cases dia <;> decide⟩
  | brReadu n | brReads n | brPeeku n | brPeeks n | brSkip n | bwWritev n => exact ⟨_, rfl, by revert n; decide⟩
  | bwInit pol al => exact ⟨_, rfl, by revert al; cases pol <;> decide⟩
  | decStart fmt | encFrame fmt | srchSingle fmt | srchPartial fmt => exact ⟨_, rfl, by revert fmt; decide⟩
  | _ => nomatch h

/-! ### Code-table strings (30_encoding.md R87) -/

theorem codeInstrs_ordinals : codeInstrs.map Instr.ordinal = (List.range 224).map some := catalog_checked.2.2.1

theorem ordinal_of_codeInstrs {k : Nat} {i : Instr} (h : codeInstrs[k]? = some i) : i.ordinal = some k := by
  have hk : (codeInstrs.map Instr.ordinal)[k]? = some i.ordinal := by rw [List.getElem?_map, h]; rfl
  rw [codeInstrs_ordinals, List.getElem?_map, Option.map_eq_some_iff] at hk
  obtain ⟨j, hj, hji⟩ := hk
  obtain ⟨_, rfl⟩ := List.getElem?_eq_some_iff.1 hj
  rw [← hji, List.getElem_range]

/-- The string of an ordinal stands at the code position and is written as the catalog gives it. -/
theorem codeInstr_of_ordinal {i : Instr} {k : Nat} (h : i.ordinal = some k) :
    codeInstrs[k]? = some i ∧ i.position = .code ∧ encode i = codeBits k := by
  cases i <;> cases h <;> exact ⟨rfl, rfl, rfl⟩

/-- Where a code opens the bits, the code position reads it. -/
theorem decodeAt_code {i : Instr} {k : Nat} (h : i.ordinal = some k) (rest : Bits) :
    decodeAt .code (codeBits k ++ rest) = .ok i rest := by
  obtain ⟨hinstr, -, -⟩ := codeInstr_of_ordinal h
  obtain ⟨e, he⟩ := exists_catalog (exec_of_ordinal h State.reset).1
  have hmem := List.mem_of_getElem? he
  obtain rfl := (ordinal_of_catalog he).1
  have hmatch : catalogMatch (e.bits ++ rest) = some e :=
    (catalogMatch_eq_some_iff _ e).2 ⟨hmem, List.prefix_append _ _⟩
  simp [decodeAt, codeBits_of_mem hmem, hmatch, hinstr]

/-- What the code position reads is a code of the catalog, by its ordinal. -/
theorem of_decodeAt_code {bits rest : Bits} {i : Instr} (h : decodeAt .code bits = .ok i rest) :
    ∃ e ∈ catalog, i.ordinal = some e.ordinal ∧ bits = e.bits ++ rest := by
  simp only [decodeAt] at h
  split at h
  · nomatch h
  · next e hmatch =>
    obtain ⟨hmem, rest', rfl⟩ := (catalogMatch_eq_some_iff bits e).1 hmatch
    split at h
    · next i' hinstr =>
      rw [List.drop_left] at h
      cases h
      exact ⟨e, hmem, ordinal_of_codeInstrs hinstr, rfl⟩
    · nomatch h

/-! ### STRv3 DC tokens (30_encoding.md R92) -/

/-- The position of the STRv3 DC tokens of a class. -/
def dcPosition (luma : Bool) : Position := if luma then .dcLuma else .dcChroma

/-- The STRv3 DC token of a class, a size and the bits after the size code. -/
def dcToken (luma : Bool) (size : Nat) (bits : Bits) : Decoded :=
  if luma then dcTokenLuma size bits else dcTokenChroma size bits

/-- The DC positions read a size code, then the token of that size. -/
theorem decodeAt_dcPosition (luma : Bool) (bits : Bits) :
    decodeAt (dcPosition luma) bits =
      match dcSize luma bits with
      | none => .reject .noDcSize
      | some size => dcToken luma size (bits.drop (dcCode luma size).length) := by
  cases luma <;> rfl

/-- A DC token is its class's size code, then its differential bits. -/
theorem dcV3_shape {i : Instr} {luma : Bool} {size v : Nat} (h : dcV3Fields i = some (luma, size, v)) :
    size < 9 ∧ v < 2 ^ size ∧ i.position = dcPosition luma ∧ encode i = dcCode luma size ++ toBits size v ∧
      ∀ rest, dcToken luma size (toBits size v ++ rest) = .ok i rest := by
  cases i <;> cases h
  case dcv3LumaS0 | dcv3ChromaS0 => exact ⟨by decide, by decide, rfl, rfl, fun _ => rfl⟩
  all_goals
    exact ⟨by decide, BitVec.isLt _, rfl, rfl, fun _ => by simp [dcToken, dcTokenLuma, dcTokenChroma, withField_toBits]⟩

theorem decodeAt_dcV3 {i : Instr} {luma : Bool} {size v : Nat} (h : dcV3Fields i = some (luma, size, v))
    (rest : Bits) : decodeAt i.position (encode i ++ rest) = .ok i rest := by
  obtain ⟨hsize, -, hpos, henc, htoken⟩ := dcV3_shape h
  simp [hpos, henc, decodeAt_dcPosition, dcSize_append hsize, htoken]

/-- A DC token that is read has the class and the size asked for, and was written by its differential bits. -/
theorem of_dcToken {luma : Bool} {size : Nat} {bits rest : Bits} {i : Instr}
    (h : dcToken luma size bits = .ok i rest) :
    ∃ v, dcV3Fields i = some (luma, size, v) ∧ bits = toBits size v ++ rest := by
  cases luma
  · simp only [dcToken, dcTokenChroma, Bool.false_eq_true, if_false] at h
    split at h
    case h_1 => cases h; exact ⟨0, rfl, rfl⟩
    case h_10 => nomatch h
    all_goals
      obtain ⟨d, rfl, rfl⟩ := of_withField_token h
      exact ⟨d.toNat, rfl, rfl⟩
  · simp only [dcToken, dcTokenLuma, if_true] at h
    split at h
    case h_1 => cases h; exact ⟨0, rfl, rfl⟩
    case h_10 => nomatch h
    all_goals
      obtain ⟨d, rfl, rfl⟩ := of_withField_token h
      exact ⟨d.toNat, rfl, rfl⟩

theorem of_decodeAt_dcPosition {luma : Bool} {bits rest : Bits} {i : Instr}
    (h : decodeAt (dcPosition luma) bits = .ok i rest) :
    ∃ size v, dcV3Fields i = some (luma, size, v) ∧ bits = dcCode luma size ++ (toBits size v ++ rest) := by
  rw [decodeAt_dcPosition] at h
  split at h
  · nomatch h
  · next size hsize =>
    obtain ⟨-, rest', rfl⟩ := (dcSize_eq_some_iff luma bits size).1 hsize
    rw [List.drop_left] at h
    obtain ⟨v, hv, rfl⟩ := of_dcToken h
    exact ⟨size, v, hv, rfl⟩

/-! ### Payloads and back-references (30_encoding.md R95, R96, R101) -/

section
variable (run : BitVec 6) (x len : BitVec 8)

theorem encode_escStdPayload (level : BitVec 10) :
    encode (.escStdPayload run level) = toBits 6 run.toNat ++ toBits 10 level.toNat := rfl

theorem encode_escLainPayloadShort : encode (.escLainPayloadShort run x) = toBits 6 run.toNat ++ toBits 8 x.toNat := rfl

theorem encode_escLainPayloadPos :
    encode (.escLainPayloadPos run x) = toBits 6 run.toNat ++ toBits 8 0x00 ++ toBits 8 x.toNat := rfl

theorem encode_escLainPayloadNeg :
    encode (.escLainPayloadNeg run x) = toBits 6 run.toNat ++ toBits 8 0x80 ++ toBits 8 x.toNat := rfl

theorem encode_lzBackrefShort (off : BitVec 7) :
    encode (.lzBackrefShort len off) = toBits 8 len.toNat ++ false :: toBits 7 off.toNat := rfl

theorem encode_lzBackrefLong (off : BitVec 15) :
    encode (.lzBackrefLong len off) = toBits 8 len.toNat ++ true :: toBits 15 off.toNat := rfl

/-- A short payload's byte is no extension byte (30_encoding.md R96). -/
theorem encodable_escLainPayloadShort :
    (Instr.escLainPayloadShort run x).encodable = true ↔ x ≠ 0x00#8 ∧ x ≠ 0x80#8 := by
  change (x != 0x00#8 && x != 0x80#8) = true ↔ _
  simp

end

theorem lainPayload_zero (run : BitVec 6) (x : BitVec 8) (rest : Bits) :
    lainPayload run (toBits 8 0x00 ++ (toBits 8 x.toNat ++ rest)) = .ok (.escLainPayloadPos run x) rest :=
  (withField_toBits 8 0x00#8 _ _).trans (by simp [withField_toBits])

theorem lainPayload_half (run : BitVec 6) (x : BitVec 8) (rest : Bits) :
    lainPayload run (toBits 8 0x80 ++ (toBits 8 x.toNat ++ rest)) = .ok (.escLainPayloadNeg run x) rest :=
  (withField_toBits 8 0x80#8 _ _).trans (by simp [withField_toBits])

theorem lainPayload_short (run : BitVec 6) {b : BitVec 8} (h0 : b ≠ 0x00#8) (h80 : b ≠ 0x80#8) (rest : Bits) :
    lainPayload run (toBits 8 b.toNat ++ rest) = .ok (.escLainPayloadShort run b) rest := by
  simp [lainPayload, withField_toBits, h0, h80]

/-- The level bytes of a Lain payload that is read are those the encoder writes of it. -/
theorem of_lainPayload {run : BitVec 6} {bits rest : Bits} {i : Instr} (h : lainPayload run bits = .ok i rest) :
    i.position = .escLain ∧ i.encodable = true ∧ encode i ++ rest = toBits 6 run.toNat ++ bits := by
  unfold lainPayload at h
  obtain ⟨b, bits', rfl, hlevel⟩ := withField_eq_ok_iff.1 h
  split at hlevel
  · next h0 =>
    obtain ⟨x, rfl, rfl⟩ := of_withField_token hlevel
    subst h0
    exact ⟨rfl, rfl, by simp [encode_escLainPayloadPos]⟩
  · next h0 =>
    split at hlevel
    · next h80 =>
      obtain ⟨x, rfl, rfl⟩ := of_withField_token hlevel
      subst h80
      exact ⟨rfl, rfl, by simp [encode_escLainPayloadNeg]⟩
    · next h80 =>
      cases hlevel
      exact ⟨rfl, (encodable_escLainPayloadShort run b).2 ⟨h0, h80⟩, by simp [encode_escLainPayloadShort]⟩

theorem of_backrefToken {len : BitVec 8} {bits rest : Bits} {i : Instr} (h : backrefToken len bits = .ok i rest) :
    i.position = .lzBackref ∧ i.encodable = true ∧ encode i ++ rest = toBits 8 len.toNat ++ bits := by
  unfold backrefToken at h
  split at h
  · nomatch h
  · obtain ⟨off, rfl, rfl⟩ := of_withField_token h
    exact ⟨rfl, rfl, by simp [encode_lzBackrefShort]⟩
  · obtain ⟨off, rfl, rfl⟩ := of_withField_token h
    exact ⟨rfl, rfl, by simp [encode_lzBackrefLong]⟩

/-! ### Decoding what was encoded (30_encoding.md R85 to R103) -/

/-- The tokens that are no code-table string and no STRv3 DC token are read field by field. -/
theorem decodeAt_fieldToken {i : Instr} (hcode : i.ordinal = none) (hdc : dcV3Fields i = none)
    (hcmd : i.position ≠ .command) (henc : i.encodable = true) (rest : Bits) :
    decodeAt i.position (encode i ++ rest) = .ok i rest := by
  cases i with
  | dc10 v =>
    change decodeAt .dcTen (toBits 10 v.toNat ++ rest) = _
    simp only [decodeAt, withField_toBits]
  | lzFlag f =>
    change decodeAt .lzFlag (toBits 8 f.toNat ++ rest) = _
    simp only [decodeAt, withField_toBits]
  | lzLiteral c =>
    change decodeAt .lzLiteral (toBits 8 c.toNat ++ rest) = _
    simp only [decodeAt, withField_toBits]
  | escStdPayload run level =>
    change decodeAt .escStd _ = _
    simp only [encode_escStdPayload, List.append_assoc, decodeAt, withField_toBits]
  | escLainPayloadShort run b =>
    obtain ⟨h0, h80⟩ := (encodable_escLainPayloadShort run b).1 henc
    change decodeAt .escLain _ = _
    simp only [encode_escLainPayloadShort, List.append_assoc, decodeAt, withField_toBits, lainPayload_short run h0 h80]
  | escLainPayloadPos run x =>
    change decodeAt .escLain _ = _
    simp only [encode_escLainPayloadPos, List.append_assoc, decodeAt, withField_toBits, lainPayload_zero]
  | escLainPayloadNeg run x =>
    change decodeAt .escLain _ = _
    simp only [encode_escLainPayloadNeg, List.append_assoc, decodeAt, withField_toBits, lainPayload_half]
  | pad10Strv2 | pad10Strv3 => exact fixedTail_eq_ok_iff.2 ⟨rfl, rfl⟩
  | lzBackrefShort len off =>
    change decodeAt .lzBackref _ = _
    simp only [encode_lzBackrefShort, List.append_assoc, List.cons_append, decodeAt, backrefToken, withField_toBits]
  | lzBackrefLong len off =>
    change decodeAt .lzBackref _ = _
    simp only [encode_lzBackrefLong, List.append_assoc, List.cons_append, decodeAt, backrefToken, withField_toBits]
  | _ => exact nomatch hcode, hdc, hcmd

/-- Settles O1: a code-table string by its ordinal, an STRv3 DC token by class and size, a command by its word, and
every other token field by field. -/
theorem decodeOfEncode : Obligations.DecodeOfEncode := by
  intro i rest henc
  cases hcode : i.ordinal with
  | some k =>
    obtain ⟨-, hpos, hbits⟩ := codeInstr_of_ordinal hcode
    rw [hpos, hbits, decodeAt_code hcode]
  | none =>
    cases hdc : dcV3Fields i with
    | some f => exact decodeAt_dcV3 hdc rest
    | none =>
      by_cases hcmd : i.position = .command
      · obtain ⟨w, hw, hdec⟩ := exists_word_of_command hcmd
        simp [hcmd, hw, decodeAt, withField_toBits, hdec]
      · exact decodeAt_fieldToken hcode hdc hcmd henc rest

/-! ### Encoding what was decoded (30_encoding.md R85 to R103) -/

/-- Only a short Lain payload may have no encoding (30_encoding.md R96). -/
theorem encodable_of_position {i : Instr} (h : i.position ≠ .escLain) : i.encodable = true := by
  cases i with
  | escLainPayloadShort run b => exact absurd rfl h
  | _ => rfl

theorem of_decodeAt_command {bits rest : Bits} {i : Instr} (h : decodeAt .command bits = .ok i rest) :
    i.position = .command ∧ encode i ++ rest = bits := by
  simp only [decodeAt] at h
  obtain ⟨w, bits', rfl, hword⟩ := withField_eq_ok_iff.1 h
  split at hword
  · next j hdec =>
    cases hword
    obtain ⟨hpos, henc⟩ := decodeCommand_encode hdec
    exact ⟨hpos, by rw [henc]⟩
  · nomatch hword

theorem of_decodeAt_dcV3 {luma : Bool} {bits rest : Bits} {i : Instr}
    (h : decodeAt (dcPosition luma) bits = .ok i rest) :
    i.position = dcPosition luma ∧ i.encodable = true ∧ encode i ++ rest = bits := by
  obtain ⟨size, v, hv, rfl⟩ := of_decodeAt_dcPosition h
  obtain ⟨-, -, hpos, henc, -⟩ := dcV3_shape hv
  refine ⟨hpos, encodable_of_position ?_, by rw [henc, List.append_assoc]⟩
  rw [hpos]
  cases luma <;> decide

/-- Settles O2, position by position. -/
theorem encodeOfDecode : Obligations.EncodeOfDecode := by
  intro p bits rest i h
  cases p with
  | command =>
    obtain ⟨hpos, henc⟩ := of_decodeAt_command h
    exact ⟨hpos, encodable_of_position (by simp [hpos]), henc⟩
  | code =>
    obtain ⟨e, hmem, hord, rfl⟩ := of_decodeAt_code h
    obtain ⟨-, hpos, henc⟩ := codeInstr_of_ordinal hord
    exact ⟨hpos, encodable_of_position (by simp [hpos]), by rw [henc, codeBits_of_mem hmem]⟩
  | dcTen | lzFlag | lzLiteral =>
    obtain ⟨x, rfl, rfl⟩ := of_withField_token h
    exact ⟨rfl, rfl, rfl⟩
  | dcLuma => exact of_decodeAt_dcV3 (luma := true) h
  | dcChroma => exact of_decodeAt_dcV3 (luma := false) h
  | escStd =>
    simp only [decodeAt] at h
    obtain ⟨run, bits', rfl, hlevel⟩ := withField_eq_ok_iff.1 h
    obtain ⟨level, rfl, rfl⟩ := of_withField_token hlevel
    exact ⟨rfl, rfl, List.append_assoc _ _ _⟩
  | escLain =>
    simp only [decodeAt] at h
    obtain ⟨run, bits', rfl, hlevel⟩ := withField_eq_ok_iff.1 h
    exact of_lainPayload hlevel
  | padStrv2 | padStrv3 =>
    obtain ⟨rfl, rfl⟩ := fixedTail_eq_ok_iff.1 h
    exact ⟨rfl, rfl, rfl⟩
  | lzBackref =>
    simp only [decodeAt] at h
    obtain ⟨len, bits', rfl, hoff⟩ := withField_eq_ok_iff.1 h
    exact of_backrefToken hoff

/-! ### The opcode map (30_encoding.md R103, R104, R107) -/

/-- A word of this op and immediate is dispatched to `d` as the rows of an opcode map say: BAD_OPCODE for an op of no
row, else BAD_IMM or a command by the bits the row names. -/
def MapsAs (op imm : BitVec 8) (rows : List (BitVec 8 × BitVec 8)) (d : Dispatched) : Prop :=
  ((∀ p ∈ rows, p.1 ≠ op) → d = .reject .badOpcode) ∧
    ∀ free, (op, free) ∈ rows →
      (imm &&& ~~~free ≠ 0 → d = .reject .badImm) ∧ (imm &&& ~~~free = 0 → ∃ i, d = .run i)

theorem mapsAs_nil (op imm : BitVec 8) : MapsAs op imm [] (.reject .badOpcode) :=
  ⟨fun _ => rfl, fun _ h => nomatch h⟩

/-- One row of the opcode map, before rows of other ops. -/
theorem mapsAs_cons {op imm op' free : BitVec 8} {rows : List (BitVec 8 × BitVec 8)} {j : Instr} {d : Dispatched}
    (hnew : rows.all (fun p => p.1 != op') = true) (hrest : MapsAs op imm rows d) :
    MapsAs op imm ((op', free) :: rows) (if op = op' then named imm free j else d) := by
  obtain ⟨hop, himm⟩ := hrest
  split
  · next heq =>
    subst heq
    refine ⟨fun h => absurd rfl (h _ List.mem_cons_self), fun free' hmem => ?_⟩
    rcases List.mem_cons.1 hmem with heq | hmem
    · cases heq
      exact ⟨fun h => if_neg h, fun h => ⟨j, if_pos h⟩⟩
    · exact absurd (List.all_eq_true.1 hnew _ hmem) (by simp)
  · next hne =>
    refine ⟨fun h => hop fun p hp => h p (List.mem_cons_of_mem _ hp), fun free' hmem => ?_⟩
    rcases List.mem_cons.1 hmem with heq | hmem
    · cases heq
      exact absurd rfl hne
    · exact himm free' hmem

/-- The decoder's rows are those of the opcode map, in its order. -/
theorem decodeCommand_mapsAs (w : BitVec 16) :
    MapsAs (w.extractLsb' 8 8) (w.extractLsb' 0 8) opcodeMap (decodeCommand w) := by
  unfold decodeCommand opcodeMap
  iterate 26 refine mapsAs_cons rfl ?_
  exact mapsAs_nil _ _

/-- Settles O7: what the opcode map says of a word, and that the encoder writes back what was decoded. -/
theorem commandRejection : Obligations.CommandRejection := by
  intro w
  obtain ⟨hop, himm⟩ := decodeCommand_mapsAs w
  refine ⟨hop, fun free hrow => ?_⟩
  obtain ⟨hbad, hgood⟩ := himm free hrow
  refine ⟨hbad, fun h => ?_⟩
  obtain ⟨i, hi⟩ := hgood h
  obtain ⟨hpos, henc⟩ := decodeCommand_encode hi
  exact ⟨i, hi, hpos, henc⟩

/-- Settles O6, by running the decoder on each of the nine words. -/
theorem wordsDecode : Obligations.WordsDecode := by
  unfold Obligations.WordsDecode
  decide +kernel

end Sys2Proof.Machine
end

section
/-! PROOFS. 40_bit_cursor.md R121 to R128, R139: what a read, a skip and a peek inside a decode step do to a sound reader,
in terms of the stream ahead. -/

namespace Sys2Proof.Machine

/-! ### The stream behind the bits taken (40_bit_cursor.md R122) -/

/-- A bit taken is the first of the stream; the others stay ahead. -/
theorem remainingBits_takeBit {m : Memory} {r r' : ReaderRegs} {b : Bool} (hr : CursorOk m r)
    (h : takeBit m r = some (b, r')) : remainingBits m r = b :: remainingBits m r' := by
  simp only [remainingBits, bitsRemaining_takeBit hr h, streamBits, h]

/-- A taking of n bits leaves the stream without its first n. -/
theorem remainingBits_takeLoop {m : Memory} (n v k : Nat) {r : ReaderRegs} (hr : CursorOk m r) :
    remainingBits m (takeLoop m n v k r).regs = (remainingBits m r).drop n := by
  induction n generalizing v k r with
  | zero => rfl
  | succ n ih =>
    unfold takeLoop
    cases hb : takeBit m r with
    | none => simp [remainingBits, bitsRemaining_eq_zero_of_takeBit_none hr hb, streamBits]
    | some p =>
      obtain ⟨b, r'⟩ := p
      rw [remainingBits_takeBit hr hb, List.drop_succ_cons]
      exact ih _ _ (takeBit_ok m r r' b hr hb).1

section
variable {s : State}

/-- A taking of n bits moves a sound reader by those that are there (10_state.md R28). -/
theorem advanced_takeBits (hs : ReaderOk s) (n : Nat) :
    Advanced s (min n (ahead s).length) (takeBits s.frame s.rd n).regs := by
  have hr := (readerOk_iff s).1 hs
  obtain ⟨hok, -, -, hread⟩ := takeLoop_spec s.frame n 0 0 s.rd hr
  obtain ⟨hstart, hstop, hpol, heos⟩ := takeLoop_keeps s.frame n 0 0 s.rd
  have hgot : (takeBits s.frame s.rd n).got = min n (ahead s).length := congrArg Prod.snd (peekBits_eq n hs)
  have hrest := remainingBits_takeLoop n 0 0 hr
  refine ⟨?_, ?_, ?_, (readerOk_iff _).2 hok⟩
  · dsimp only
    rw [← hstart, ← hstop, ← hpol, ← heos]
    rfl
  · rw [← hgot]
    exact hread
  · refine hrest.trans ?_
    rcases Nat.le_total n (ahead s).length with hle | hle
    · rw [Nat.min_eq_left hle]
      rfl
    · rw [Nat.min_eq_right hle, List.drop_length]
      exact List.drop_eq_nil_of_le hle

/-- Moving on twice moves on by the sum. -/
theorem Advanced.trans {n k : Nat} {r r' : ReaderRegs} (h : Advanced s n r) (h' : Advanced (s.withRd r) k r') :
    Advanced s (n + k) r' := by
  obtain ⟨hregs, hcount, hrest, -⟩ := h
  obtain ⟨hregs', hcount', hrest', hok⟩ := h'
  refine ⟨?_, ?_, ?_, hok⟩
  · rw [hregs', State.withRd_rd, hregs]
  · rw [hcount', State.withRd_rd, hcount, Nat.add_assoc]
  · refine hrest'.trans ?_
    rw [ahead, State.withRd_frame, State.withRd_rd, hrest, List.drop_drop]

theorem Advanced.ahead {n : Nat} {r : ReaderRegs} (h : Advanced s n r) : ahead (s.withRd r) = (ahead s).drop n := h.rest

/-! ### Reading inside a step (40_bit_cursor.md R139) -/

/-- A read that finds all its bits goes on with their value, behind them. -/
theorem readThen_of_le (hs : ReaderOk s) {n : Nat} (h : n ≤ (ahead s).length) :
    ∃ r, Advanced s n r ∧ ∀ k, readThen n s k = k (ofBits ((ahead s).take n)) (s.withRd r) := by
  have hadv := advanced_takeBits hs n
  obtain ⟨hvalue, hgot⟩ := Prod.ext_iff.1 (peekBits_eq n hs)
  rw [Nat.min_eq_left h] at hadv hvalue hgot
  rw [Nat.sub_self, pow_zero, Nat.mul_one] at hvalue
  refine ⟨_, hadv, fun k => ?_⟩
  have hfull : (takeBits s.frame s.rd n).got = n := hgot
  have hregs : (readBits s.frame s.rd n).regs = (takeBits s.frame s.rd n).regs := by
    simp [readBits, hfull, eosAfter]
  rcases readThen_cases n s k with ⟨hlt, -⟩ | ⟨-, heq⟩
  · exact absurd hfull (Nat.ne_of_lt hlt)
  · rw [heq, hregs]
    exact congrArg (k · _) hvalue

/-- A read that the stream ends in takes all that is left, sets BR_EOS and faults with the number of real bits
(40_bit_cursor.md R126, 43_decoder.md R208). -/
theorem readThen_of_lt (hs : ReaderOk s) {n : Nat} (h : (ahead s).length < n) :
    ∃ r, Advanced s (ahead s).length r ∧
      ∀ k, readThen n s k = decRaise (s.withRd { r with eos := true }) (excEndOfStream (ahead s).length) := by
  have hadv := advanced_takeBits hs n
  obtain ⟨-, hgot⟩ := Prod.ext_iff.1 (peekBits_eq n hs)
  rw [Nat.min_eq_right (Nat.le_of_lt h)] at hadv hgot
  refine ⟨_, hadv, fun k => ?_⟩
  have hshort : (takeBits s.frame s.rd n).got = (ahead s).length := hgot
  have hregs : (readBits s.frame s.rd n).regs = { (takeBits s.frame s.rd n).regs with eos := true } := by
    simp [readBits, hshort, eosAfter, h]
  have hcount : (readBits s.frame s.rd n).got = (ahead s).length := hgot
  rcases readThen_cases n s k with ⟨-, heq⟩ | ⟨hle, -⟩
  · rw [heq, hregs, hcount]
  · omega

/-- A field that stands at the cursor is read with its value. -/
theorem readThen_field (hs : ReaderOk s) {w v : Nat} {rest : Bits} (hv : v < 2 ^ w) (h : ahead s = toBits w v ++ rest) :
    ∃ r, Advanced s w r ∧ ahead (s.withRd r) = rest ∧ ∀ k, readThen w s k = k v (s.withRd r) := by
  obtain ⟨r, hadv, hread⟩ := readThen_of_le hs (n := w) (by simp [h])
  have htake : (ahead s).take w = toBits w v := by rw [h, List.take_left' (toBits_length w v)]
  have hdrop : (ahead s).drop w = rest := by rw [h, List.drop_left' (toBits_length w v)]
  refine ⟨r, hadv, hadv.ahead.trans hdrop, fun k => ?_⟩
  rw [hread, htake, ofBits_toBits, Nat.mod_eq_of_lt hv]

/-- Bits that stand at the cursor are skipped. -/
theorem skipThen_bits (hs : ReaderOk s) {bits rest : Bits} (h : ahead s = bits ++ rest) :
    ∃ r, Advanced s bits.length r ∧ ahead (s.withRd r) = rest ∧ ∀ k, skipThen bits.length s k = k (s.withRd r) := by
  obtain ⟨r, hadv, hread⟩ := readThen_of_le hs (n := bits.length) (by simp [h])
  exact ⟨r, hadv, hadv.ahead.trans (by rw [h, List.drop_left]), fun k => hread fun _ => k⟩

/-! ### Windows (40_bit_cursor.md R128) -/

/-- The window of n bits at the cursor, filled up with zeros behind the stream's end. -/
def windowOf (s : State) (n : Nat) : Bits := (ahead s).take n ++ List.replicate (n - (ahead s).length) false

theorem windowOf_length (s : State) (n : Nat) : (windowOf s n).length = n := by
  simp only [windowOf, List.length_append, List.length_take, List.length_replicate]
  omega

theorem ofBits_replicate_false (n : Nat) : ofBits (List.replicate n false) = 0 := by
  induction n with
  | zero => rfl
  | succ n ih => rw [List.replicate_succ, ofBits_cons, ih]; simp

/-- A peek shows the window. -/
theorem toBits_peekBits (hs : ReaderOk s) (n : Nat) : toBits n (peekBits s.frame s.rd n).1 = windowOf s n := by
  have hvalue : (peekBits s.frame s.rd n).1 = ofBits (windowOf s n) := by
    rw [peekBits_eq n hs, windowOf, ofBits_append, ofBits_replicate_false, List.length_replicate]
    have hfill : n - min n (ahead s).length = n - (ahead s).length := by omega
    simp [hfill]
  have hself := toBits_ofBits (windowOf s n)
  rwa [windowOf_length, ← hvalue] at hself

/-- What opens the stream and fits the window opens the window. -/
theorem prefix_windowOf {bits : Bits} {n : Nat} (h : bits <+: ahead s) (hn : bits.length ≤ n) : bits <+: windowOf s n :=
  ((List.prefix_take_iff.2 ⟨h, hn⟩).trans (List.prefix_append _ _))

end

/-! ### Table lookups (41_code_table.md R150, R152) -/

theorem codeTable_apart (d : Dialect) : ((codeTable d).map Entry.bits).Pairwise Apart := by
  rw [codeTable_bits]
  exact catalog_apart

/-- A lookup answers exactly the entry whose string opens the window. -/
theorem lookup_eq_some_iff (d : Dialect) (w : Nat) (e : Entry) :
    lookup d w = some e ↔ e ∈ codeTable d ∧ e.bits <+: toBits 17 w :=
  find?_isPrefixOf_iff (codeTable_apart d) (toBits 17 w) e

/-- Every dialect has an entry of each ordinal, with the catalog's string. -/
theorem codeTable_of_catalog (d : Dialect) {e : Entry} (h : e ∈ catalog) :
    ∃ e', (codeTable d)[e.ordinal]? = some e' ∧ e'.bits = e.bits := by
  have hbits : ((codeTable d).map Entry.bits)[e.ordinal]? = some e.bits := by
    rw [codeTable_bits, List.getElem?_map, catalog_of_mem h]
    rfl
  rw [List.getElem?_map, Option.map_eq_some_iff] at hbits
  exact hbits

theorem codeTable_bits_mem {d : Dialect} {e : Entry} (h : e ∈ codeTable d) : ∃ c ∈ catalog, c.bits = e.bits := by
  have hmem := List.mem_map_of_mem (f := Entry.bits) h
  rw [codeTable_bits] at hmem
  exact List.mem_map.1 hmem

theorem catalog_length_le {e : Entry} (h : e ∈ catalog) : e.bits.length ≤ 17 := by
  obtain ⟨-, -, -, hall, -⟩ := catalog_checked
  exact of_decide_eq_true (List.all_eq_true.1 hall e h)

theorem codeTable_length_le {d : Dialect} {e : Entry} (h : e ∈ codeTable d) : e.bits.length ≤ 17 := by
  obtain ⟨c, hc, hbits⟩ := codeTable_bits_mem h
  exact hbits ▸ catalog_length_le hc

/-- Where an entry's string opens the window, the code at the cursor is that entry's. -/
theorem acStep_of_entry {s : State} (hs : ReaderOk s) {e : Entry} (hmem : e ∈ codeTable (dialectOf s.cfg.format))
    (h : e.bits <+: windowOf s 17) : acStep s = codeStep e.bits.length e.meaning s := by
  have hlook := (lookup_eq_some_iff _ (peekBits s.frame s.rd 17).1 e).2 ⟨hmem, toBits_peekBits hs 17 ▸ h⟩
  simp [acStep, hlook]

/-- The size code that opens the window is the one at the cursor (43_decoder.md R191). -/
theorem dcV3Start_eq {s : State} (hs : ReaderOk s) {size : Nat}
    (h : dcSize (isLuma s.dec.ctxBlock) (windowOf s (if isLuma s.dec.ctxBlock then 7 else 8)) = some size) :
    dcV3Start s = dcV3Sized (isLuma s.dec.ctxBlock) size s := by
  simp only [dcV3Start, toBits_peekBits hs, h]

end Sys2Proof.Machine
end

section
/-! PROOFS. 43_decoder.md R188, 30_encoding.md R85: DEC_NEXT refines the token at the cursor (O34). The token's bits
stand first in the stream, so both take the same reads with the same values. -/

namespace Sys2Proof.Machine

/-- The two's-complement value of a field (00_scope.md R11). -/
theorem sext_toNat {n : Nat} (hn : 0 < n) (x : BitVec n) : sext n x.toNat = x.toInt := by
  obtain ⟨n, rfl⟩ := Nat.exists_eq_succ_of_ne_zero hn.ne'
  have hdouble : 2 ^ n.succ = 2 * 2 ^ n := pow_succ' 2 n
  rw [BitVec.toInt_eq_toNat_cond, sext, Nat.succ_sub_one]
  by_cases h : x.toNat < 2 ^ n
  · rw [if_pos h, if_pos (by omega)]
  · rw [if_neg h, if_neg (by omega)]
    norm_cast

section
variable {s : State} {i : Instr} {rest : Bits}

/-- What DEC_NEXT and the token i do alike. -/
def RunAlike (s : State) (i : Instr) : Prop := exec i s = .next (decNext s)

/-- A ten-bit block start (43_decoder.md R189, R193). -/
theorem runAlike_dcTen (hs : ReaderOk s) (hst : s.dec.state = .blockStart)
    (hf : s.cfg.format = .strv1 ∨ s.cfg.format = .strv2 ∨ s.cfg.format = .lain)
    (h : decodeAt .dcTen (ahead s) = .ok i rest) : RunAlike s i := by
  obtain ⟨v, rfl, hv⟩ := of_withField_token h
  obtain ⟨r, -, -, hread⟩ := readThen_field hs v.isLt hv
  have hat : atDcTen s = true := by rcases hf with hf | hf | hf <;> simp [atDcTen, hst, hf]
  have hstep : decNext s = dcTenStart s := by
    rcases hf with hf | hf | hf <;> simp [decNext, hst, blockStartStep, hf]
  change execDc10 v s = _
  rw [execDc10, tokenAt, if_pos hat, hstep, dcTenStart, hread, hread, sext_toNat (by decide)]

/-- An STRv3 block start: the size code, then the differential bits (43_decoder.md R191). -/
theorem runAlike_dcV3 (hs : ReaderOk s) (hst : s.dec.state = .blockStart) (hf : s.cfg.format = .strv3)
    (h : decodeAt (dcPosition (isLuma s.dec.ctxBlock)) (ahead s) = .ok i rest) : RunAlike s i := by
  obtain ⟨size, v, hi, hbits⟩ := of_decodeAt_dcPosition h
  obtain ⟨hsize, hv, -, -, -⟩ := dcV3_shape hi
  have hat : atDcV3 (isLuma s.dec.ctxBlock) s = true := by simp [atDcV3, hst, hf]
  have hopens : dcCode (isLuma s.dec.ctxBlock) size <+: windowOf s (if isLuma s.dec.ctxBlock then 7 else 8) := by
    refine prefix_windowOf (hbits ▸ List.prefix_append _ _) ?_
    cases isLuma s.dec.ctxBlock <;> interval_cases size <;> decide
  have hstep : decNext s = dcV3Sized (isLuma s.dec.ctxBlock) size s := by
    simp only [decNext, hst, blockStartStep, hf]
    exact dcV3Start_eq hs ((dcSize_eq_some_iff _ _ _).2 ⟨hsize, hopens⟩)
  obtain ⟨r, hadv, hafter, hskip⟩ := skipThen_bits hs hbits
  obtain ⟨r', -, -, hread⟩ := readThen_field hadv.sound hv hafter
  rw [RunAlike, exec_of_dcV3Fields hi, hstep]
  refine (tokenAt_next _ _ _ _).2 ⟨hat, ?_⟩
  rw [dcV3Sized, hskip, hskip, hread, hread]

/-- A code inside a block, whatever the frame's dialect binds to it (43_decoder.md R201). -/
theorem runAlike_code (hs : ReaderOk s) (hst : s.dec.state = .midBlock) (h : decodeAt .code (ahead s) = .ok i rest) :
    RunAlike s i := by
  obtain ⟨c, hc, hord, hbits⟩ := of_decodeAt_code h
  obtain ⟨e, hentry, heq⟩ := codeTable_of_catalog (dialectOf s.cfg.format) hc
  have hopens : e.bits <+: windowOf s 17 :=
    prefix_windowOf (heq ▸ hbits ▸ List.prefix_append _ _) (heq ▸ catalog_length_le hc)
  have hstep : decNext s = codeStep e.bits.length e.meaning s := by
    simp only [decNext, hst]
    exact acStep_of_entry hs (List.mem_of_getElem? hentry) hopens
  rw [RunAlike, (exec_of_ordinal hord s).2, hstep, codeToken]
  simp [tokenAt, hst, hentry]

/-- The ten bits of a padding tail at the cursor are read as its value. -/
theorem runAlike_padding (hs : ReaderOk s) {f : Format} {tail : Bits} (hst : s.dec.state = .padding)
    (hf : s.cfg.format = f) (htail : padTail f = some tail) (hlen : tail.length = 10)
    (hexec : exec i s = padToken f tail s) (hbits : ahead s = tail ++ rest) : RunAlike s i := by
  have hvalue : (takeBits s.frame s.rd 10).value = ofBits tail := by
    have hpeek := congrArg Prod.fst (peekBits_eq 10 hs)
    have hlong : min 10 (ahead s).length = 10 := by simp [hbits, hlen]
    rw [hlong, Nat.sub_self, pow_zero, Nat.mul_one, hbits, List.take_left' hlen] at hpeek
    exact hpeek
  have hat : atPadding f s = true := by simp [atPadding, hst, hf]
  rw [RunAlike, hexec]
  refine (tokenAt_next _ _ _ _).2 ⟨hat, ?_⟩
  simp [decNext, hst, paddingStep, hf, htail, hvalue]

/-- Settles O34, by the place in the grammar where the decoder stands. -/
theorem decNextRunsToken : Obligations.DecNextRunsToken := by
  intro s i hs h
  suffices hrun : RunAlike s i from ⟨decNext s, rfl, hrun⟩
  unfold nextToken at h
  split at h
  · nomatch h
  · next p hp =>
    split at h
    · next j rest hdec =>
      cases h
      unfold decodePosition at hp
      split at hp
      · next hst =>
        split at hp <;> cases hp
        · next hf => exact runAlike_dcTen hs hst (.inl hf) hdec
        · next hf => exact runAlike_dcTen hs hst (.inr (.inl hf)) hdec
        · next hf => exact runAlike_dcTen hs hst (.inr (.inr hf)) hdec
        · next hf => exact runAlike_dcV3 hs hst hf hdec
      · next hst =>
        cases hp
        exact runAlike_code hs hst hdec
      · next hst =>
        split at hp <;> cases hp
        · next hf =>
          obtain ⟨rfl, hbits⟩ := fixedTail_eq_ok_iff.1 hdec
          exact runAlike_padding hs hst hf rfl rfl rfl hbits
        · next hf =>
          obtain ⟨rfl, hbits⟩ := fixedTail_eq_ok_iff.1 hdec
          exact runAlike_padding hs hst hf rfl rfl rfl hbits
      · nomatch hp
      · nomatch hp
      · nomatch hp
    · nomatch h

end

end Sys2Proof.Machine
end

section
/-! PROOFS. 43_decoder.md R192, R199, R208, 30_encoding.md R106: the windows that fault the decoder and the tokens the
stream ends in (O36). Every short token is a read that follows reads which found their bits. -/

namespace Sys2Proof.Machine

section
variable {s : State} {r : ReaderRegs}

/-- An exception that faults the decoder, raised behind some reads (43_decoder.md R208, 60_exceptions.md R293). -/
theorem decRaise_withRd (s : State) (r : ReaderRegs) {e : Exc} (h : e.faultsDecoder = true) :
    decRaise (s.withRd r) e = faulted s r e.code e.info := by
  rw [decRaise, State.raise, State.withRd_dec, faultRecord_faults e s.dec h]
  rfl

theorem decRaise_of_faults (s : State) {e : Exc} (h : e.faultsDecoder = true) :
    decRaise s e = faulted s s.rd e.code e.info := decRaise_withRd s s.rd h

theorem Advanced.refl (hs : ReaderOk s) : Advanced s 0 s.rd := ⟨rfl, rfl, rfl, hs⟩

/-- A step that reads m bits and then comes to a read the stream ends in. -/
theorem runsShort_of_read {i : Instr} {t : State} {m n : Nat} {k : Nat → State → State} (hadv : Advanced s m r)
    (hm : m ≤ (ahead s).length) (hn : (ahead s).length < m + n) (hexec : exec i s = .next t)
    (hstep : t = readThen n (s.withRd r) k) : RunsShort i s ((ahead s).length - m) := by
  have hleft : (ahead (s.withRd r)).length = (ahead s).length - m := by rw [hadv.ahead, List.length_drop]
  obtain ⟨r', hadv', hread⟩ := readThen_of_lt hadv.sound (n := n) (by omega)
  have htotal := hadv.trans hadv'
  rw [hleft] at htotal hread
  rw [Nat.add_sub_cancel' hm] at htotal
  refine ⟨r', htotal, ?_⟩
  rw [hexec, hstep, hread]
  exact congrArg _ (decRaise_withRd s { r' with eos := true } rfl)

/-- The first read of a step is one the stream ends in. -/
theorem runsShort_of_first {i : Instr} {t : State} {n : Nat} {k : Nat → State → State} (hs : ReaderOk s)
    (hn : (ahead s).length < n) (hexec : exec i s = .next t) (hstep : t = readThen n s k) :
    RunsShort i s (ahead s).length :=
  runsShort_of_read (.refl hs) (Nat.zero_le _) (by omega) hexec hstep

/-- Two reads one after the other: the first finds its bits. -/
theorem readThen_next {m n : Nat} (hadv : Advanced s m r) (hn : m + n ≤ (ahead s).length) :
    ∃ r', Advanced s (m + n) r' ∧
      ∀ k, readThen n (s.withRd r) k = k (ofBits (((ahead s).drop m).take n)) (s.withRd r') := by
  have hleft : (ahead (s.withRd r)).length = (ahead s).length - m := by rw [hadv.ahead, List.length_drop]
  obtain ⟨r', hadv', hread⟩ := readThen_of_le hadv.sound (n := n) (by omega)
  rw [hadv.ahead] at hread
  exact ⟨r', hadv.trans hadv', hread⟩

/-! ### Windows that no code opens (30_encoding.md R106) -/

/-- Every code of the table has a one among its first twelve bits (30_encoding.md R89). -/
theorem true_mem_of_codeTable {d : Dialect} {e : Entry} (h : e ∈ codeTable d) : true ∈ e.bits.take 12 := by
  obtain ⟨-, -, -, -, hall⟩ := catalog_checked
  obtain ⟨c, hc, hbits⟩ := codeTable_bits_mem h
  exact hbits ▸ List.contains_iff_mem.1 (List.all_eq_true.1 hall c hc)

theorem lookup_eq_none_of_zeros {d : Dialect} {w : Nat} (h : (toBits 17 w).take 12 = List.replicate 12 false) :
    lookup d w = none := by
  rw [Option.eq_none_iff_forall_not_mem]
  intro e he
  obtain ⟨hmem, hopens⟩ := (lookup_eq_some_iff d w e).1 he
  have hone := (hopens.take 12).subset (true_mem_of_codeTable hmem)
  rw [h] at hone
  exact absurd (List.eq_of_mem_replicate hone) (by decide)

/-- Twelve zeros at the cursor: EndOfStream in a short window, else no table entry (43_decoder.md R199, R201). -/
theorem decNext_of_zeros (hs : ReaderOk s) (hst : s.dec.state = .midBlock)
    (h : (windowOf s 17).take 12 = List.replicate 12 false) :
    decNext s =
      if min 17 (ahead s).length < 17 then faulted s s.rd 2#4 (min 17 (ahead s).length : Nat) else faulted s s.rd 3#4 1 := by
  rw [← toBits_peekBits hs] at h
  simp only [decNext, hst, acStep, lookup_eq_none_of_zeros h]
  rw [peekBits_eq 17 hs]
  by_cases hk : min 17 (ahead s).length < 17
  · rw [if_pos hk, if_pos hk]
    exact decRaise_of_faults s (e := excEndOfStream _) rfl
  · rw [if_neg hk, if_neg hk]
    exact decRaise_of_faults s (e := excCorrupt _) rfl

/-- No size code is all ones (43_decoder.md R192). -/
theorem dcSize_ones (luma : Bool) : dcSize luma (List.replicate (if luma then 7 else 8) true) = none := by
  cases luma <;> decide

/-- An STRv3 size window of ones (43_decoder.md R192). -/
theorem decNext_of_ones (hs : ReaderOk s) (hst : s.dec.state = .blockStart) (hf : s.cfg.format = .strv3)
    (h : (ahead s).take (if isLuma s.dec.ctxBlock then 7 else 8) =
      List.replicate (if isLuma s.dec.ctxBlock then 7 else 8) true) :
    decNext s = faulted s s.rd 3#4 4 := by
  have hlen : (if isLuma s.dec.ctxBlock then 7 else 8) ≤ (ahead s).length := by
    have := congrArg List.length h
    rw [List.length_take, List.length_replicate] at this
    omega
  have hwindow : windowOf s (if isLuma s.dec.ctxBlock then 7 else 8) =
      List.replicate (if isLuma s.dec.ctxBlock then 7 else 8) true := by
    rw [windowOf, h, Nat.sub_eq_zero_of_le hlen, List.replicate_zero, List.append_nil]
  simp only [decNext, hst, blockStartStep, hf, dcV3Start, toBits_peekBits hs, hwindow, dcSize_ones]
  exact decRaise_of_faults s rfl

/-! ### Tokens the stream ends in -/

/-- A code longer than what is left (43_decoder.md R201). -/
theorem runsShort_code (hs : ReaderOk s) (hst : s.dec.state = .midBlock) {e : Entry}
    (hmem : e ∈ codeTable (dialectOf s.cfg.format)) (hopens : e.bits <+: windowOf s 17)
    (hshort : (ahead s).length < e.bits.length) : RunsShort .decNext s (ahead s).length := by
  have hstep : decNext s = codeStep e.bits.length e.meaning s := by
    simp only [decNext, hst, acStep_of_entry hs hmem hopens]
  rw [codeStep, skipThen] at hstep
  exact runsShort_of_first hs hshort rfl hstep

/-- A ten-bit DC, by DEC_NEXT and by its token (43_decoder.md R189, R193). -/
theorem runsShort_dcTen (hs : ReaderOk s) (hst : s.dec.state = .blockStart)
    (hf : s.cfg.format = .strv1 ∨ s.cfg.format = .strv2 ∨ s.cfg.format = .lain) (hshort : (ahead s).length < 10) :
    RunsShort .decNext s (ahead s).length ∧ ∀ v, RunsShort (.dc10 v) s (ahead s).length := by
  have hat : atDcTen s = true := by rcases hf with hf | hf | hf <;> simp [atDcTen, hst, hf]
  have hstep : decNext s = dcTenStart s := by
    rcases hf with hf | hf | hf <;> simp [decNext, hst, blockStartStep, hf]
  refine ⟨runsShort_of_first hs hshort rfl hstep, fun v => ?_⟩
  refine runsShort_of_first hs hshort (k := fun _ => startBlock (mdec (blockScale s).toNat v.toInt)) ?_ rfl
  change execDc10 v s = _
  rw [execDc10, tokenAt, if_pos hat]

/-- An STRv3 size code, or the differential behind it (43_decoder.md R191). -/
theorem runsShort_dcV3 (hs : ReaderOk s) (hst : s.dec.state = .blockStart) (hf : s.cfg.format = .strv3) {size : Nat}
    (hsize : dcSize (isLuma s.dec.ctxBlock) (windowOf s (if isLuma s.dec.ctxBlock then 7 else 8)) = some size) :
    ((ahead s).length < (dcCode (isLuma s.dec.ctxBlock) size).length → RunsShort .decNext s (ahead s).length) ∧
    ((dcCode (isLuma s.dec.ctxBlock) size).length ≤ (ahead s).length →
      (ahead s).length < (dcCode (isLuma s.dec.ctxBlock) size).length + size →
      RunsShort .decNext s ((ahead s).length - (dcCode (isLuma s.dec.ctxBlock) size).length)) := by
  have hstep : decNext s = dcV3Sized (isLuma s.dec.ctxBlock) size s := by
    simp only [decNext, hst, blockStartStep, hf, dcV3Start_eq hs hsize]
  rw [dcV3Sized, skipThen] at hstep
  refine ⟨fun hshort => runsShort_of_first hs hshort rfl hstep, fun hcode hshort => ?_⟩
  obtain ⟨r, hadv, hread⟩ := readThen_of_le hs hcode
  have hpos : size ≠ 0 := by omega
  refine runsShort_of_read hadv hcode hshort (k := fun v => startBlockV3 (dcDiff size v)) rfl ?_
  rw [hstep, hread, if_neg hpos]

/-! ### Escape payloads (43_decoder.md R197, R198, R202) -/

/-- The width of the level field that follows the run in a format's escape. -/
def levelWidth (f : Format) : Nat := if f = .lain then 8 else 10

/-- An escape reads a run, then a level field; what it does with them is the format's. -/
def afterLevel (f : Format) (run level : Nat) (s : State) : State :=
  if f = .lain then
    if level = 0x00 then readThen 8 s fun x => placeCode run x
    else if level = 0x80 then readThen 8 s fun x => placeCode run ((x : Int) - 256)
    else placeCode run (sext 8 level) s
  else placeCode run (sext 10 level) s

theorem escapeStep_eq (s : State) :
    escapeStep s = readThen 6 s fun run s' =>
      readThen (levelWidth s.cfg.format) s' fun level s'' => afterLevel s.cfg.format run level s'' := by
  by_cases hf : s.cfg.format = .lain
  · simp only [escapeStep, escLain, levelWidth, afterLevel, hf, if_true]
  · simp only [escapeStep, escStd, levelWidth, afterLevel, hf, if_false]

/-- The escape code at the cursor is taken, and the escape goes on behind it (43_decoder.md R201, R202). -/
theorem decNext_escape (hs : ReaderOk s) (hst : s.dec.state = .midBlock) {e : Entry}
    (hmem : e ∈ codeTable (dialectOf s.cfg.format)) (hesc : e.meaning = .esc) (hopens : e.bits <+: ahead s) :
    ∃ r, Advanced s e.bits.length r ∧ decNext s = escapeStep (s.withRd r) := by
  obtain ⟨rest, hrest⟩ := hopens
  obtain ⟨r, hadv, -, hskip⟩ := skipThen_bits hs hrest.symm
  have hwindow := prefix_windowOf (s := s) ⟨rest, hrest⟩ (codeTable_length_le hmem)
  refine ⟨r, hadv, ?_⟩
  simp only [decNext, hst, acStep_of_entry hs hmem hwindow, codeStep, hskip, hesc]

/-- An extension byte makes a Lain escape read one byte more (43_decoder.md R198). -/
theorem afterLevel_extended {f : Format} (hf : f = .lain) (run : Nat) {level : Nat} (h : level = 0x00 ∨ level = 0x80) :
    ∃ k, ∀ s, afterLevel f run level s = readThen 8 s k := by
  rcases h with rfl | rfl
  · exact ⟨fun x => placeCode run x, fun s => by simp [afterLevel, hf]⟩
  · exact ⟨fun x => placeCode run ((x : Int) - 256), fun s => by simp [afterLevel, hf]⟩

/-- An escape payload that the stream ends in, field by field. -/
theorem runsShort_escape (hs : ReaderOk s) (hst : s.dec.state = .midBlock) {e : Entry}
    (hmem : e ∈ codeTable (dialectOf s.cfg.format)) (hesc : e.meaning = .esc) (hopens : e.bits <+: ahead s) :
    ((ahead s).length < e.bits.length + 6 → RunsShort .decNext s ((ahead s).length - e.bits.length)) ∧
    (e.bits.length + 6 ≤ (ahead s).length → (ahead s).length < e.bits.length + 6 + levelWidth s.cfg.format →
      RunsShort .decNext s ((ahead s).length - (e.bits.length + 6))) ∧
    (s.cfg.format = .lain → e.bits.length + 6 + 8 ≤ (ahead s).length →
      ofBits (((ahead s).drop (e.bits.length + 6)).take 8) = 0x00 ∨
        ofBits (((ahead s).drop (e.bits.length + 6)).take 8) = 0x80 →
      (ahead s).length < e.bits.length + 6 + 8 + 8 →
      RunsShort .decNext s ((ahead s).length - (e.bits.length + 6 + 8))) := by
  obtain ⟨r, hadv, hstep⟩ := decNext_escape hs hst hmem hesc hopens
  rw [escapeStep_eq] at hstep
  refine ⟨fun hshort => runsShort_of_read hadv hopens.length_le hshort rfl hstep,
    fun hrun hshort => ?_, fun hf hlevel hext hshort => ?_⟩
  · obtain ⟨r1, hadv1, hread1⟩ := readThen_next hadv hrun
    rw [hread1] at hstep
    exact runsShort_of_read hadv1 hrun hshort rfl hstep
  · obtain ⟨r1, hadv1, hread1⟩ := readThen_next hadv (n := 6) (by omega)
    obtain ⟨r2, hadv2, hread2⟩ := readThen_next hadv1 hlevel
    obtain ⟨k, hafter⟩ := afterLevel_extended hf (ofBits (((ahead s).drop e.bits.length).take 6)) hext
    have hwidth : levelWidth s.cfg.format = 8 := by rw [levelWidth, if_pos hf]
    rw [hread1, State.withRd_cfg, hwidth, hread2, hafter] at hstep
    exact runsShort_of_read hadv2 hlevel hshort rfl hstep

/-- Settles O36, clause by clause. -/
theorem faultingWindows : Obligations.FaultingWindows := by
  intro s hs k window
  have hfill : 17 - min 17 (ahead s).length = 17 - (ahead s).length := by omega
  have hwindow : window = windowOf s 17 := by simp only [window, k, windowOf, hfill]
  have hluma : (if isLuma s.dec.ctxBlock then 7 else 8) = if 2 ≤ s.dec.ctxBlock then 7 else 8 := by
    simp [isLuma]
  refine ⟨fun hst hzeros => congrArg _ (decNext_of_zeros hs hst (hwindow ▸ hzeros)),
    fun hst e hmem hopens hshort => runsShort_code hs hst hmem (hwindow ▸ hopens) hshort,
    fun hst hf hones => congrArg _ (decNext_of_ones hs hst hf (by rwa [hluma])),
    fun hst hf hshort => runsShort_dcTen hs hst hf hshort,
    fun hst hf => ?_, fun hst e hmem hesc hopens => ?_⟩
  · intro luma m left size hsize
    exact runsShort_dcV3 hs hst hf hsize
  intro rest extended
  obtain ⟨hrun, hlevel, hbyte⟩ := runsShort_escape hs hst hmem hesc hopens
  have hlen := hopens.length_le
  have hrest : rest.length = (ahead s).length - e.bits.length := List.length_drop
  have hlast : rest.length - 6 = (ahead s).length - (e.bits.length + 6) := by omega
  have hthird : rest.length - 14 = (ahead s).length - (e.bits.length + 6 + 8) := by omega
  refine ⟨fun h => hrest ▸ hrun (by omega), fun h6 h => hlast ▸ hlevel (by omega) ?_,
    fun hf h14 hext h => hthird ▸ hbyte hf (by omega) ?_ (by omega)⟩
  · have hwidth : 6 + levelWidth s.cfg.format = if s.cfg.format = .lain then 14 else 16 := by
      unfold levelWidth
      split <;> rfl
    omega
  · have hdrop : rest.drop 6 = (ahead s).drop (e.bits.length + 6) := List.drop_drop
    simp only [extended, hdrop] at hext
    rcases hext with hext | hext
    · exact .inl (by rw [hext, ofBits_toBits]; rfl)
    · exact .inr (by rw [hext, ofBits_toBits]; rfl)

end

end Sys2Proof.Machine
end

section
/-! PROOFS. 44_encoder.md R226 to R228, 30_encoding.md R93: STRv3 differentials are assembled as they were written, and
rounding a DC loses little (O47). -/

namespace Sys2Proof.Machine

/-! ### Differentials (30_encoding.md R93, 44_encoder.md R227) -/

/-- The bit length of a positive number bounds it on both sides (00_scope.md R11). -/
theorem bitLength_bounds {m : Nat} (hm : m ≠ 0) :
    0 < bitLength m ∧ 2 ^ (bitLength m - 1) ≤ m ∧ m < 2 ^ bitLength m := by
  rw [bitLength, if_neg hm]
  exact ⟨Nat.succ_pos _, Nat.log2_self_le hm, Nat.lt_log2_self⟩

theorem bitLength_lt_of_lt {m n : Nat} (h : m < 2 ^ n) : bitLength m ≤ n := by
  by_cases hm : m = 0
  · simp [bitLength, hm]
  · obtain ⟨hpos, hle, -⟩ := bitLength_bounds hm
    have := (Nat.pow_lt_pow_iff_right (by decide : 1 < 2)).1 (hle.trans_lt h)
    omega

/-- The number the differential bits hold: the differential itself, or for a negative one its distance above the least of
its size. -/
def diffValue (size : Nat) (diff : Int) : Nat := lowBits size (if 0 < diff then diff else diff + (2 ^ size - 1))

theorem diffValue_eq {size : Nat} {diff : Int} (h : diff.natAbs < 2 ^ size) :
    (diffValue size diff : Int) = if 0 < diff then diff else diff + (2 ^ size - 1) := by
  have hlt : (diff.natAbs : Int) < 2 ^ size := by exact_mod_cast h
  rw [diffValue, lowBits, Int.emod_eq_of_lt]
  · rw [Int.toNat_of_nonneg]
    split <;> omega
  · split <;> omega
  · split <;> omega

/-- The decoder assembles the differential whose bits the encoder wrote. -/
theorem dcDiff_diffValue (diff : Int) : dcDiff (bitLength diff.natAbs) (diffValue (bitLength diff.natAbs) diff) = diff := by
  by_cases hzero : diff = 0
  · subst hzero
    rfl
  · obtain ⟨hpos, hle, hlt⟩ := bitLength_bounds (Int.natAbs_ne_zero.2 hzero)
    have hvalue := diffValue_eq hlt
    obtain ⟨n, hn⟩ := Nat.exists_eq_succ_of_ne_zero hpos.ne'
    rw [hn] at hle hlt hvalue ⊢
    rw [Nat.succ_sub_one] at hle
    have hpow : (2 : Int) ^ n.succ = 2 ^ n * 2 := pow_succ 2 n
    have hle' : (2 : Int) ^ n ≤ diff.natAbs := by exact_mod_cast hle
    have hlt' : (diff.natAbs : Int) < 2 ^ n.succ := by exact_mod_cast hlt
    have hfits : diffValue n.succ diff < 2 ^ (n + 1) := by
      zify
      rw [hvalue]
      split <;> omega
    have htop : 2 ^ n ≤ diffValue n.succ diff ↔ 0 < diff := by
      zify
      rw [hvalue]
      split <;> omega
    rw [dcDiff, if_neg (Nat.succ_ne_zero n), Nat.succ_sub_one]
    by_cases hsign : 0 < diff
    · rw [if_pos (Nat.testBit_of_two_pow_le_and_two_pow_add_one_gt (htop.2 hsign) hfits), hvalue, if_pos hsign]
    · rw [Nat.testBit_lt_two_pow (Nat.lt_of_not_le (mt htop.1 hsign)), if_neg Bool.false_ne_true, hvalue, if_neg hsign]
      omega

/-- Settles O47: the size code is told apart by its opening, the differential by its top bit; rounding is arithmetic. -/
theorem dcV3Differentials : Obligations.DcV3Differentials := by
  refine ⟨fun luma diff rest hlo hhi => ?_, fun dc hlo hhi => ?_⟩
  · have hsize : bitLength diff.natAbs ≤ 8 := bitLength_lt_of_lt (by omega)
    have hbits : dcV3Bits luma diff ++ rest = dcCode luma (bitLength diff.natAbs) ++
        (toBits (bitLength diff.natAbs) (diffValue (bitLength diff.natAbs) diff) ++ rest) := List.append_assoc _ _ _
    refine ⟨_, diffValue (bitLength diff.natAbs) diff, ?_, ?_, ?_, dcDiff_diffValue diff⟩
    · rw [hbits, dcSize_append (by omega)]
    · rw [hbits, List.drop_left]
    · have hpow : (0 : Int) < 2 ^ bitLength diff.natAbs := by positivity
      have hmod := Int.emod_lt_of_pos
        (if 0 < diff then diff else diff + (2 ^ bitLength diff.natAbs - 1)) hpow
      zify
      rw [diffValue, lowBits]
      omega
  · unfold rnd4
    refine ⟨by omega, by omega, by omega, fun h => abs_le.2 ⟨by omega, by omega⟩, fun h => by omega, fun h => by omega⟩

end Sys2Proof.Machine
end

section
/-! PROOFS. 46_lzss.md R268, 30_encoding.md R101: the byte tokens of the LZSS unit, and what a copy leaves in the output
(O56). -/

namespace Sys2Proof.Machine

/-! ### Copies (46_lzss.md R268) -/

/-- Every byte a copy appends is the one at its distance before it, also where the copy overlaps itself. -/
theorem copyBack_getElem? {d : Nat} (n : Nat) {dst : List Byte} (hd : 1 ≤ d) (hdst : d ≤ dst.length) {k : Nat}
    (hk : k < n) : (copyBack n d dst)[dst.length + k]? = (copyBack n d dst)[dst.length + k - d]? := by
  induction n generalizing dst k with
  | zero => omega
  | succ n ih =>
    cases k with
    | zero =>
      obtain ⟨more, hmore⟩ := copyBack_prefix n d (dst ++ [dst.getD (dst.length - d) 0#8])
      have hlt : dst.length - d < dst.length := by omega
      rw [copyBack, Nat.add_zero, ← hmore, List.append_assoc, List.getElem?_append_right le_rfl,
        List.getElem?_append_left hlt, Nat.sub_self, List.getD_eq_getElem _ _ hlt, List.getElem?_eq_getElem hlt]
      rfl
    | succ k =>
      have h := ih (dst := dst ++ [dst.getD (dst.length - d) 0#8]) (k := k) (by simp; omega) (by omega)
      rw [List.length_append, List.length_singleton, Nat.add_assoc, Nat.add_comm 1 k] at h
      exact h

/-! ### The byte tokens (30_encoding.md R101) -/

section
variable {s : State}

theorem toBytes_length (m : Memory) : m.toBytes.length = m.size := by simp [Memory.toBytes]

/-- Where the unit reads a token, its meaning is what the token does. -/
theorem lzToken_of_wants (hwants : s.lz.dst.size < s.host.operands.dsize) (r : Result) : lzToken s r = r :=
  if_pos (decide_eq_true hwants)

theorem lzHasByte_of_lt {ahead : Nat} (h : s.lz.sp + ahead < (lzSource s.host.operands).length) :
    lzHasByte s ahead = true := decide_eq_true h

/-- A back-reference within the output so far and the expected size copies and moves past its bytes. -/
theorem lzCopyToken_eq {used len dist : Nat} (hdist : dist ≤ s.lz.dst.size)
    (hroom : s.lz.dst.size + len ≤ s.host.operands.dsize) :
    lzCopyToken used len dist s = .next (answered
      { s with lz := { s.lz with
          sp := s.lz.sp + used, dst := Memory.ofBytes (copyBack len dist s.lz.dst.toBytes) } } .done) := by
  have hsize := toBytes_length s.lz.dst
  have hput : lzPutCopy s.host.operands.dsize len dist { lzWork s.lz with sp := s.lz.sp + used } =
      (⟨s.lz.sp + used, copyBack len dist s.lz.dst.toBytes, s.lz.flags, s.lz.flagI⟩, none) := by
    rw [lzPutCopy, lzWork, if_neg (by rw [hsize]; omega), if_neg (by rw [hsize]; omega)]
  rw [lzCopyToken, hput]
  rfl

/-- The two back-reference tokens, with all their bytes there. -/
theorem exec_backref {i : Instr} {used len dist : Nat}
    (hi : (∃ l o, i = Instr.lzBackrefShort l o ∧ used = 2 ∧ len = l.toNat + 3 ∧ dist = o.toNat + 1) ∨
      ∃ l o, i = Instr.lzBackrefLong l o ∧ used = 3 ∧ len = l.toNat + 3 ∧ dist = o.toNat + 1)
    (hwants : s.lz.dst.size < s.host.operands.dsize) (hbytes : s.lz.sp + used ≤ (lzSource s.host.operands).length) :
    exec i s = lzCopyToken used len dist s ∧ 1 ≤ dist := by
  obtain ⟨l, o, rfl, rfl, rfl, rfl⟩ | ⟨l, o, rfl, rfl, rfl, rfl⟩ := hi
  · refine ⟨?_, Nat.succ_pos _⟩
    change execLzBackrefShort l o s = _
    rw [execLzBackrefShort, lzToken_of_wants hwants, lzHasByte_of_lt (by omega), lzHasByte_of_lt (by omega)]
    rfl
  · refine ⟨?_, Nat.succ_pos _⟩
    change execLzBackrefLong l o s = _
    rw [execLzBackrefLong, lzToken_of_wants hwants, lzHasByte_of_lt (by omega), lzHasByte_of_lt (by omega),
      lzHasByte_of_lt (by omega)]
    rfl

/-- Settles O56: one token at a time, the back-references by what a copy leaves. -/
theorem lzTokens : Obligations.LzTokens := by
  intro s src dst hwants
  refine ⟨fun hbyte => ⟨fun f => ?_, fun c => ?_⟩, fun i used len dist hi hbytes hdist hroom => ?_⟩
  · change execLzFlag f s = _
    rw [execLzFlag, lzToken_of_wants hwants, lzHasByte_of_lt hbyte]
    rfl
  · change execLzLiteral c s = _
    rw [execLzLiteral, lzToken_of_wants hwants, lzHasByte_of_lt hbyte]
    rfl
  · obtain ⟨hexec, hpos⟩ := exec_backref hi hwants hbytes
    refine ⟨copyBack len dist dst, ?_, copyBack_length _ _ _, copyBack_prefix _ _ _, fun k hk => ?_⟩
    · rw [hexec, lzCopyToken_eq hdist hroom]
    · exact copyBack_getElem? len hpos ((toBytes_length s.lz.dst).symm ▸ hdist) hk

end

end Sys2Proof.Machine
end

section
/-! PROOFS. 45_qscale_search.md R245 to R250: SRCH_SINGLE and SRCH_PARTIAL over the scales one by one (O50). -/

namespace Sys2Proof.Machine

/-! ### Exceptions of an encode (60_exceptions.md R293) -/

/-- ENC_FRAME and the searches raise with OUT left empty. -/
theorem raise_encoder (s : State) (e : Exc) : s.raise .encoder e = encodeFailed s e.code e.info := by
  simp [State.raise, encodeFailed, refusedWith]

/-! ### Attempts passed over (45_qscale_search.md R245) -/

/-- An attempt ends alike whatever the registers hold. -/
theorem encodeFrame_eq_attempt (j : EncJob) (st : EncSt) : (encodeFrame j st).2 = attempt j :=
  encodeFrame_result j st _

theorem judge_of_passedOver {budget : Nat} {j : EncJob} (h : passedOver budget j) :
    judge budget (attempt j) = .tooBig ∨ ∃ e, judge budget (attempt j) = .tooMuch e := by
  obtain ⟨bytes, hframe, hbig⟩ | ⟨info, hraised⟩ := h
  · exact .inl (by rw [hframe, judge, if_neg (by omega)])
  · exact .inr ⟨_, by rw [hraised, judge, if_pos rfl]⟩

section
variable {job : Nat → EncJob} {budget : Nat}

/-- Scales passed over leave only the last of them in SRCH_Q, and the registers of their attempts. -/
theorem singleLoop_passedOver (pre qs : List Nat) (h : ∀ q ∈ pre, passedOver budget (job q)) (x : SearchSt) :
    ∃ st, singleLoop job budget (pre ++ qs) x =
      singleLoop job budget qs ⟨{ x.srch with q := pre.getLast?.getD x.srch.q }, st⟩ := by
  induction pre generalizing x with
  | nil => exact ⟨x.st, rfl⟩
  | cons q pre ih =>
    have hq := judge_of_passedOver (h q List.mem_cons_self)
    rw [← encodeFrame_eq_attempt (job q) x.st] at hq
    obtain ⟨st, hst⟩ := ih (fun q' hq' => h q' (List.mem_cons_of_mem q hq'))
      ⟨{ x.srch with q := q }, (encodeFrame (job q) x.st).1⟩
    refine ⟨st, ?_⟩
    rw [List.getLast?_cons, Option.getD_some]
    obtain hq | ⟨e, hq⟩ := hq
    · rw [List.cons_append, singleLoop, hq]
      exact hst
    · rw [List.cons_append, singleLoop, hq]
      exact hst

/-- The first attempt that is not passed over decides, here by a frame that fits. -/
theorem singleLoop_fits {pre qs : List Nat} (h : ∀ q ∈ pre, passedOver budget (job q)) {q : Nat} {bytes : List Byte}
    (hfits : fitsAs budget (job q) bytes) (x : SearchSt) :
    ∃ st, singleLoop job budget (pre ++ q :: qs) x =
      (⟨{ x.srch with q := q, best := some bytes }, st⟩, .found bytes q) := by
  obtain ⟨hframe, hle⟩ := hfits
  obtain ⟨st, hst⟩ := singleLoop_passedOver pre (q :: qs) h x
  refine ⟨(encodeFrame (job q) st).1, ?_⟩
  rw [hst, singleLoop, encodeFrame_eq_attempt, hframe, judge, if_pos hle]

/-- The first attempt that is not passed over decides, here by an exception that ends the search. -/
theorem singleLoop_raises {pre qs : List Nat} (h : ∀ q ∈ pre, passedOver budget (job q)) {q : Nat} {e : Exc}
    (hraised : attempt (job q) = .raised e) (he : e.code ≠ 4#4) (x : SearchSt) :
    ∃ st, singleLoop job budget (pre ++ q :: qs) x = (⟨{ x.srch with q := q }, st⟩, .raised e) := by
  obtain ⟨st, hst⟩ := singleLoop_passedOver pre (q :: qs) h x
  refine ⟨(encodeFrame (job q) st).1, ?_⟩
  rw [hst, singleLoop, encodeFrame_eq_attempt, hraised, judge, if_neg he]

/-! ### The scales of a search (45_qscale_search.md R248, R250) -/

theorem mem_scalesFrom {a q : Nat} : q ∈ scalesFrom a ↔ a ≤ q ∧ q ≤ 63 := by
  rw [scalesFrom, List.range_eq_range', List.drop_range', List.mem_range'_1]
  omega

/-- The scales of a search up to one of them, it, and those above it. -/
theorem scalesFrom_split {a q : Nat} (ha : a ≤ q) (hq : q ≤ 63) :
    ∃ pre, scalesFrom a = pre ++ q :: scalesFrom (q + 1) ∧ ∀ q' ∈ pre, a ≤ q' ∧ q' < q := by
  refine ⟨List.range' a (q - a), ?_, fun q' h => ?_⟩
  · have hrest : q :: scalesFrom (q + 1) = List.range' (a + (q - a)) (64 - a - (q - a)) := by
      have hlen : 64 - a - (q - a) = 64 - (q + 1) + 1 := by omega
      rw [Nat.add_sub_cancel' ha, hlen, List.range'_succ, scalesFrom, List.range_eq_range', List.drop_range']
      simp
    have hall : scalesFrom a = List.range' a (q - a + (64 - a - (q - a))) := by
      have hlen : q - a + (64 - a - (q - a)) = 64 - a := by omega
      rw [hlen, scalesFrom, List.range_eq_range', List.drop_range']
      simp
    rw [hrest, hall, ← List.range'_append_1]
  · rw [List.mem_range'_1] at h
    omega

theorem scalesFrom_above : scalesFrom 64 = [] := rfl

end

/-! ### The commands -/

section
variable {s : State} {i : Instr} {fmt : BitVec 3} {first : Nat}

/-- SRCH_SINGLE from scale 1, or SRCH_PARTIAL from the original scale. -/
def SearchesFrom (s : State) (i : Instr) (fmt : BitVec 3) (first : Nat) : Prop :=
  i = .srchSingle fmt ∧ first = 1 ∨ i = .srchPartial fmt ∧ first = s.host.operands.qOrig

/-- A reserved format code changes nothing but the error registers (30_encoding.md R107, log 8). -/
theorem exec_search_reserved (hi : SearchesFrom s i fmt first) (hf : Format.ofCode fmt = none) :
    exec i s = .next (violated s 4) := by
  obtain ⟨rfl, -⟩ | ⟨rfl, -⟩ := hi
  · change execSrchSingle fmt s = _
    rw [execSrchSingle, hf]
    rfl
  · change execSrchPartial fmt s = _
    rw [execSrchPartial, hf]
    rfl

/-- Lain is a refused operand (log 8). -/
theorem exec_search_lain (hi : SearchesFrom s i fmt first) (hf : Format.ofCode fmt = some .lain) :
    exec i s = .next (encodeFailed s 6#4 4) := by
  obtain ⟨rfl, -⟩ | ⟨rfl, -⟩ := hi
  · change execSrchSingle fmt s = _
    simp only [execSrchSingle, hf, if_true, raise_encoder]
    rfl
  · change execSrchPartial fmt s = _
    simp only [execSrchPartial, hf, true_or, if_true, raise_encoder]
    rfl

/-- An original scale outside 1..63 is a refused operand (45_qscale_search.md R250). -/
theorem exec_search_badScale (hi : SearchesFrom s i fmt first) {f : Format} (hf : Format.ofCode fmt = some f)
    (hfirst : ¬ (1 ≤ first ∧ first ≤ 63)) : exec i s = .next (encodeFailed s 6#4 4) := by
  obtain ⟨-, rfl⟩ | ⟨rfl, rfl⟩ := hi
  · omega
  · have hscale : legalScale s.host.operands.qOrig = false := by
      rw [legalScale, ← Bool.decide_and]
      exact decide_eq_false hfirst
    change execSrchPartial fmt s = _
    simp only [execSrchPartial, hf, hscale, or_true, if_true, raise_encoder]
    rfl

/-- Accepted operands: the loop runs from the first scale. -/
theorem exec_search (hi : SearchesFrom s i fmt first) {f : Format} (hf : Format.ofCode fmt = some f) (hlain : f ≠ .lain)
    (hfirst : 1 ≤ first ∧ first ≤ 63) : exec i s = .next (endSearch s (searchFrom first f s)) := by
  obtain ⟨rfl, rfl⟩ | ⟨rfl, rfl⟩ := hi
  · change execSrchSingle fmt s = _
    simp only [execSrchSingle, hf, hlain, if_false]
  · have hscale : legalScale s.host.operands.qOrig = true := by
      rw [legalScale, ← Bool.decide_and]
      exact decide_eq_true hfirst
    change execSrchPartial fmt s = _
    simp only [execSrchPartial, hf, hlain, hscale, Bool.true_eq_false, or_false, if_false]

/-- Settles O50: the scales before the deciding one are passed over, and its attempt is the loop's end. -/
theorem singleSearch : Obligations.SingleSearch := by
  intro s i fmt first o hi
  refine ⟨exec_search_reserved hi, exec_search_lain hi, fun f hf hlain => ⟨exec_search_badScale hi hf, fun h1 h63 => ?_⟩⟩
  rw [exec_search hi hf hlain ⟨h1, h63⟩, searchFrom]
  refine ⟨fun q bytes hq hq63 hpassed hfits => ?_, fun hpassed => ?_,
    fun q code info hq hq63 hpassed hraised hcode => ?_⟩
  · obtain ⟨pre, hscales, hpre⟩ := scalesFrom_split hq hq63
    obtain ⟨st, hloop⟩ := singleLoop_fits (qs := scalesFrom (q + 1))
      (fun q' hq' => hpassed q' (hpre q' hq').1 (hpre q' hq').2) hfits ⟨searchStart o.budget, encSt s⟩
    rw [hscales, hloop]
    exact ⟨st.enc, st.wr, rfl⟩
  · obtain ⟨pre, hscales, hpre⟩ := scalesFrom_split h63 le_rfl
    obtain ⟨st, hloop⟩ := singleLoop_passedOver (pre ++ [63]) []
      (fun q hq => hpassed q (mem_scalesFrom.1 (hscales ▸ hq)).1 (mem_scalesFrom.1 (hscales ▸ hq)).2)
      ⟨searchStart o.budget, encSt s⟩
    rw [List.append_nil, List.getLast?_append, List.getLast?_singleton] at hloop
    rw [hscales, scalesFrom_above, hloop]
    exact ⟨st.enc, st.wr, rfl⟩
  · obtain ⟨pre, hscales, hpre⟩ := scalesFrom_split hq hq63
    obtain ⟨st, hloop⟩ := singleLoop_raises (qs := scalesFrom (q + 1))
      (fun q' hq' => hpassed q' (hpre q' hq').1 (hpre q' hq').2) hraised hcode ⟨searchStart o.budget, encSt s⟩
    rw [hscales, hloop]
    simp only [endSearch, raise_encoder]
    exact ⟨st.enc, st.wr, rfl⟩

end

end Sys2Proof.Machine
end

section
/-! PROOFS. 44_encoder.md R221 to R223, R231, R239: ENC_FRAME raises the first exception of its checks (O46). The blocks
before it are encoded one after another and leave the scales of the encode alone. -/

namespace Sys2Proof.Machine

/-! ### Operands (44_encoder.md R221) -/

theorem legalScale_iff (q : Nat) : legalScale q = true ↔ 1 ≤ q ∧ q ≤ 63 := by simp [legalScale]

theorem ikiDimensionOk_iff (p : FieldPos) (v : Nat) : ikiDimensionOk p v = true ↔ 0 < v ∧ v < 256 ^ p.width := by
  simp [ikiDimensionOk, fieldHolds]

/-- The checks of the operand record are the conditions the claim spells out. -/
theorem jobLegal_iff (f : Format) (o : Operands) : jobLegal (frameJob f o) = true ↔ legalEncode f o := by
  cases f with
  | strv1 | strv2 | strv3 => simp [jobLegal, jobScalesLegal, frameJob, legalEncode, legalScale_iff]
  | lain => simp [jobLegal, jobScalesLegal, frameJob, legalEncode, legalScale_iff, and_assoc]
  | iki =>
    simp [jobLegal, jobScalesLegal, frameJob, legalEncode, legalScale_iff, ikiJobLegal, ikiDimensionOk_iff, and_assoc]

theorem scaleReg_toNat {q : Nat} (h : 1 ≤ q ∧ q ≤ 63) : (scaleReg q).toNat = q := by
  rw [scaleReg, BitVec.toNat_ofNat]
  omega

/-- A legal encode starts with the scales its operands ask for (44_encoder.md R223). -/
theorem targetScale_encStart {f : Format} {o : Operands} (h : legalEncode f o) (mb b : Nat) :
    targetScale (encStart (frameJob f o)) mb b = askedScale f o mb b := by
  cases f with
  | strv1 | strv2 | strv3 => exact scaleReg_toNat h
  | lain =>
    obtain ⟨hl1, hl63, hc⟩ := h
    simp [targetScale, encStart, frameJob, askedScale, isLuma, scaleReg_toNat ⟨hl1, hl63⟩, scaleReg_toNat hc]
  | iki =>
    obtain ⟨hscales, -⟩ := h
    change ((o.mbQscale.map scaleReg).getD mb 0).toNat = o.mbQscale.getD mb 0
    by_cases hmb : mb < o.mbQscale.length
    · rw [List.getD_eq_getElem _ _ (by rwa [List.length_map]), List.getD_eq_getElem _ _ hmb, List.getElem_map,
        scaleReg_toNat (hscales _ (List.getElem_mem hmb))]
    · rw [List.getD_eq_default _ _ (by rw [List.length_map]; omega), List.getD_eq_default _ _ (by omega)]
      rfl

/-! ### The scales during an encode (10_state.md R37) -/

/-- The format and the scale registers of an encode are the same. -/
structure SameScales (e e' : EncRegs) : Prop where
  format : e'.format = e.format
  qFrame : e'.qFrame = e.qFrame
  qLuma : e'.qLuma = e.qLuma
  qChroma : e'.qChroma = e.qChroma
  mbQ : e'.mbQ = e.mbQ

theorem SameScales.refl (e : EncRegs) : SameScales e e := ⟨rfl, rfl, rfl, rfl, rfl⟩

theorem SameScales.trans {e e' e'' : EncRegs} (h : SameScales e e') (h' : SameScales e' e'') : SameScales e e'' :=
  ⟨h'.format.trans h.format, h'.qFrame.trans h.qFrame, h'.qLuma.trans h.qLuma, h'.qChroma.trans h.qChroma,
    h'.mbQ.trans h.mbQ⟩

theorem SameScales.targetScale {e e' : EncRegs} (h : SameScales e e') (mb b : Nat) :
    targetScale e' mb b = targetScale e mb b := by
  simp only [Machine.targetScale, h.format, h.qFrame, h.qLuma, h.qChroma, h.mbQ]

theorem sameScales_encodeDc (mb b : Nat) (code : MdecCode) (st : EncSt) :
    SameScales st.enc (encodeDc mb b code st).enc := by
  unfold encodeDc
  split
  case h_4 =>
    unfold encodeDcV3 setPrevRounded
    dsimp only
    split <;> exact ⟨rfl, rfl, rfl, rfl, rfl⟩
  all_goals exact ⟨rfl, rfl, rfl, rfl, rfl⟩

/-- AC codes write no register of the encoder. -/
theorem encodeAcs_enc (cs : List MdecCode) (st : EncSt) : (encodeAcs cs st).1.enc = st.enc := by
  induction cs generalizing st with
  | nil => rfl
  | cons c cs ih =>
    unfold encodeAcs
    split
    · exact ih _
    · rfl

/-- A block leaves the scales of the encode alone. -/
theorem sameScales_encodeBlock (mb b : Nat) (blk : List MdecCode) (st : EncSt) :
    SameScales st.enc (encodeBlock mb b blk st).1.enc := by
  have hdc := sameScales_encodeDc mb b (blk.headD 0) st
  have hacs := encodeAcs_enc (acCodes blk) (encodeDc mb b (blk.headD 0) st)
  rw [← hacs] at hdc
  unfold encodeBlock
  split
  · next st' hac =>
    rw [hac] at hdc
    exact hdc.trans ⟨rfl, rfl, rfl, rfl, rfl⟩
  · next st' e hac =>
    rw [hac] at hdc
    exact hdc

/-! ### AC codes (44_encoder.md R229 to R231) -/

/-- A code outside the range of Lain's escape. -/
def TooMuch (c : MdecCode) : Prop :=
  encodeLookup .lain (mdecTop c) (mdecBottom c) = none ∧ ¬ (-255 ≤ mdecBottom c ∧ mdecBottom c ≤ 255)

theorem lainLevelBits_eq_none_iff (level : Int) : lainLevelBits level = none ↔ ¬ (-255 ≤ level ∧ level ≤ 255) := by
  unfold lainLevelBits
  split_ifs <;> simp <;> omega

/-- An AC code raises exactly where Lain's escape has no form for it, and then TooMuchEnergy with its level. -/
theorem acBits_raises {f : Format} {c : MdecCode} (hf : f = .lain) (h : TooMuch c) :
    (acBits f (mdecTop c) (mdecBottom c)).2 = some (excTooMuchEnergy (mdecBottom c)) := by
  obtain ⟨hlook, hrange⟩ := h
  subst hf
  rw [acBits]
  simp only [dialectOf, if_true, hlook, (lainLevelBits_eq_none_iff _).2 hrange]

theorem acBits_completes {f : Format} {c : MdecCode} (h : f = .lain → ¬ TooMuch c) :
    (acBits f (mdecTop c) (mdecBottom c)).2 = none := by
  by_cases hf : f = .lain
  · have hc := h hf
    subst hf
    rw [acBits]
    simp only [dialectOf, if_true]
    split
    · rfl
    · next hlook =>
      split
      · rfl
      · next hlevel => exact absurd ⟨hlook, (lainLevelBits_eq_none_iff _).1 hlevel⟩ hc
  · exact acBits_std f hf _ _

/-- AC codes none of which raises are all written, and what follows them comes after. -/
theorem encodeAcs_append {before after : List MdecCode} {st : EncSt}
    (h : ∀ c ∈ before, st.enc.format = .lain → ¬ TooMuch c) :
    ∃ st', st'.enc = st.enc ∧ encodeAcs (before ++ after) st = encodeAcs after st' := by
  induction before generalizing st with
  | nil => exact ⟨st, rfl, rfl⟩
  | cons c before ih =>
    have hc := acBits_completes (h c List.mem_cons_self)
    rcases hac : acBits st.enc.format (mdecTop c) (mdecBottom c) with ⟨bits, exc⟩
    rw [hac] at hc
    obtain rfl : exc = none := hc
    obtain ⟨st', henc, hrest⟩ := ih (st := st.put bits) fun c' hc' => h c' (List.mem_cons_of_mem c hc')
    refine ⟨st', henc, ?_⟩
    rw [List.cons_append, encodeAcs, hac]
    exact hrest

theorem encodeAcs_completes {cs : List MdecCode} {st : EncSt} (h : ∀ c ∈ cs, st.enc.format = .lain → ¬ TooMuch c) :
    (encodeAcs cs st).2 = none := by
  obtain ⟨st', -, hcs⟩ := encodeAcs_append (after := []) h
  rw [List.append_nil] at hcs
  rw [hcs, encodeAcs]

/-- The first code too much for Lain's escape is the exception of a block's codes. -/
theorem encodeAcs_raises {before after : List MdecCode} {c : MdecCode} {st : EncSt} (hf : st.enc.format = .lain)
    (hbefore : ∀ c' ∈ before, ¬ TooMuch c') (hc : TooMuch c) :
    (encodeAcs (before ++ c :: after) st).2 = some (excTooMuchEnergy (mdecBottom c)) := by
  obtain ⟨st', henc, hcs⟩ := encodeAcs_append (after := c :: after) fun c' hc' (_ : st.enc.format = .lain) =>
    hbefore c' hc'
  have hraise := acBits_raises (henc ▸ hf) hc
  rcases hac : acBits st'.enc.format (mdecTop c) (mdecBottom c) with ⟨bits, exc⟩
  rw [hac] at hraise
  obtain rfl : exc = some _ := hraise
  rw [hcs, encodeAcs, hac]

theorem encodeBlock_exception (mb b : Nat) (blk : List MdecCode) (st : EncSt) :
    (encodeBlock mb b blk st).2 = (encodeAcs (acCodes blk) (encodeDc mb b (blk.headD 0) st)).2 := by
  unfold encodeBlock
  split
  · next hac => rw [hac]
  · next hac => rw [hac]

/-! ### Blocks one after another (44_encoder.md R221, R239) -/

/-- The blocks in order are the numbers 0..6n−1, split into macroblock and block. -/
theorem blockOrder_eq (n : Nat) : blockOrder n = (List.range (6 * n)).map fun k => (k / 6, k % 6) := by
  induction n with
  | zero => rfl
  | succ n ih =>
    have hblock : ∀ k ∈ List.range 6, ((6 * n + k) / 6, (6 * n + k) % 6) = (n, k) := fun k hk => by
      have := List.mem_range.1 hk
      exact Prod.ext (by simp only; omega) (by simp only; omega)
    rw [Nat.mul_succ, List.range_add, List.map_append, ← ih, List.map_map, blockOrder,
      List.range_succ (n := n), List.flatMap_append, List.flatMap_singleton]
    exact congrArg _ (List.map_congr_left fun k hk => (hblock k hk).symm)

/-- The blocks before a block, it, and those after it. -/
theorem blockOrder_split {n mb b : Nat} (hmb : mb < n) (hb : b < 6) :
    ∃ pre post, blockOrder n = pre ++ (mb, b) :: post ∧ ∀ p ∈ pre, p.2 < 6 ∧ 6 * p.1 + p.2 < 6 * mb + b := by
  have hsplit : 6 * n = 6 * mb + b + (6 * n - (6 * mb + b) - 1 + 1) := by omega
  have hhere : ((6 * mb + b) / 6, (6 * mb + b) % 6) = (mb, b) := Prod.ext (by simp only; omega) (by simp only; omega)
  have horder := blockOrder_eq n
  rw [hsplit, List.range_add, List.map_append, List.range_succ_eq_map, List.map_cons, List.map_cons, Nat.add_zero,
    hhere] at horder
  refine ⟨_, _, horder, fun p hp => ?_⟩
  obtain ⟨k, hk, rfl⟩ := List.mem_map.1 hp
  have := List.mem_range.1 hk
  exact ⟨Nat.mod_lt _ (by decide), by simp only; omega⟩

section
variable {f : Format} {o : Operands} {st : EncSt}

/-- The answer an encode gets for a block (44_encoder.md R223). -/
def answerOf (f : Format) (o : Operands) (mb b : Nat) : List MdecCode := askSource o.source mb b (askedScale f o mb b)

/-- The encode is at work on the operands, with the scales they ask for. -/
def AtWork (f : Format) (o : Operands) (st : EncSt) : Prop := SameScales (encStart (frameJob f o)) st.enc

theorem AtWork.targetScale (hst : AtWork f o st) (hlegal : legalEncode f o) (mb b : Nat) :
    targetScale st.enc mb b = askedScale f o mb b :=
  (SameScales.targetScale hst mb b).trans (targetScale_encStart hlegal mb b)

/-- The first check of an answer (44_encoder.md R222). -/
theorem encodeOne_badSource (hlegal : legalEncode f o) (hst : AtWork f o st) {mb b : Nat}
    (h : wellFormedBlock (answerOf f o mb b) = false) :
    encodeOne o.source mb b st = (st, some (excContract .badSource)) := by
  rw [answerOf] at h
  simp [encodeOne, hst.targetScale hlegal, h]

/-- The second check of an answer (44_encoder.md R223). -/
theorem encodeOne_incompatible (hlegal : legalEncode f o) (hst : AtWork f o st) {mb b : Nat}
    (h : wellFormedBlock (answerOf f o mb b) = true)
    (htop : mdecTop ((answerOf f o mb b).headD 0) ≠ askedScale f o mb b) :
    encodeOne o.source mb b st = (st, some (excIncompatible (6 * mb + b))) := by
  rw [answerOf] at h htop
  simp only [encodeOne, hst.targetScale hlegal, h, Bool.not_true, Bool.false_eq_true, if_false, if_pos htop]

/-- An answer that passes both is encoded. -/
theorem encodeOne_encodes (hlegal : legalEncode f o) (hst : AtWork f o st) {mb b : Nat}
    (h : wellFormedBlock (answerOf f o mb b) = true)
    (htop : mdecTop ((answerOf f o mb b).headD 0) = askedScale f o mb b) :
    encodeOne o.source mb b st = encodeBlock mb b (answerOf f o mb b) st := by
  rw [answerOf] at h htop ⊢
  simp only [encodeOne, hst.targetScale hlegal, h, Bool.not_true, Bool.false_eq_true, if_false,
    if_neg (not_not_intro htop)]

theorem AtWork.encodeBlock (hst : AtWork f o st) (mb b : Nat) (blk : List MdecCode) :
    AtWork f o (encodeBlock mb b blk st).1 := hst.trans (sameScales_encodeBlock mb b blk st)

theorem AtWork.encodeDc_format (hst : AtWork f o st) (mb b : Nat) (code : MdecCode) :
    (encodeDc mb b code st).enc.format = f := (Machine.encodeDc_format mb b code st).trans hst.format

/-- A good answer is encoded and raises nothing. -/
theorem encodeOne_good (hlegal : legalEncode f o) (hst : AtWork f o st) {mb b : Nat}
    (hgood : goodAnswer f (askedScale f o mb b) (answerOf f o mb b)) :
    encodeOne o.source mb b st = ((encodeBlock mb b (answerOf f o mb b) st).1, none) := by
  obtain ⟨hblock, htop, hlevels⟩ := hgood
  have hnone : (encodeBlock mb b (answerOf f o mb b) st).2 = none := by
    rw [encodeBlock_exception]
    refine encodeAcs_completes fun c hc hf => ?_
    rw [hst.encodeDc_format] at hf
    exact fun ⟨hlook, hrange⟩ => hrange (hlevels hf c hc hlook)
  rw [encodeOne_encodes hlegal hst hblock htop, ← hnone]

/-- Blocks with good answers are encoded in turn. -/
theorem encodeBlocks_good (hlegal : legalEncode f o) {pre : List (Nat × Nat)} (post : List (Nat × Nat))
    (hgood : ∀ p ∈ pre, goodAnswer f (askedScale f o p.1 p.2) (answerOf f o p.1 p.2)) (hst : AtWork f o st) :
    ∃ st', st' = pre.foldl (fun st p => (encodeBlock p.1 p.2 (answerOf f o p.1 p.2) st).1) st ∧ AtWork f o st' ∧
      encodeBlocks o.source (pre ++ post) st = encodeBlocks o.source post st' := by
  induction pre generalizing st with
  | nil => exact ⟨st, rfl, hst, rfl⟩
  | cons p pre ih =>
    obtain ⟨st', hfold, hwork, hrest⟩ := ih (fun p' hp' => hgood p' (List.mem_cons_of_mem p hp'))
      (hst.encodeBlock p.1 p.2 (answerOf f o p.1 p.2))
    refine ⟨st', hfold, hwork, ?_⟩
    rw [List.cons_append, encodeBlocks, encodeOne_good hlegal hst (hgood p List.mem_cons_self)]
    exact hrest

/-! ### The frame and the command -/

/-- The registers an encode starts its blocks from. -/
def blocksStart (f : Format) (o : Operands) : EncSt := ⟨encStart (frameJob f o), writerAt (policyOf f) (padAlign f)⟩

/-- A legal encode is its blocks, then the end of the frame. -/
theorem encodeFrame_legal (hlegal : legalEncode f o) (st : EncSt) :
    encodeFrame (frameJob f o) st =
      match encodeBlocks o.source (blockOrder o.mbCount) (blocksStart f o) with
      | (st', none) => finishFrame (frameJob f o) st'
      | (st', some e) => (st', .raised e) := by
  unfold encodeFrame
  rw [(jobLegal_iff f o).2 hlegal]
  rfl

/-- An exception of a block is that of the encode, where the answers before it are good. -/
theorem encodeFrame_raises (hlegal : legalEncode f o) {mb b : Nat} (hmb : mb < o.mbCount) (hb : b < 6)
    (hgood : ∀ mb' b', b' < 6 → 6 * mb' + b' < 6 * mb + b → goodAnswer f (askedScale f o mb' b') (answerOf f o mb' b'))
    {e : Exc} (hraise : ∀ st, AtWork f o st → (encodeOne o.source mb b st).2 = some e) (st : EncSt) :
    (encodeFrame (frameJob f o) st).2 = .raised e := by
  obtain ⟨pre, post, horder, hpre⟩ := blockOrder_split hmb hb
  obtain ⟨st', -, hwork, hblocks⟩ := encodeBlocks_good (st := blocksStart f o) hlegal ((mb, b) :: post)
    (fun p hp => hgood p.1 p.2 (hpre p hp).1 (hpre p hp).2) (SameScales.refl _)
  have hone := hraise st' hwork
  rcases hres : encodeOne o.source mb b st' with ⟨st'', exc⟩
  rw [hres] at hone
  obtain rfl : exc = some e := hone
  rw [encodeFrame_legal hlegal, horder, hblocks, encodeBlocks, hres]

/-- With good answers for every block an encode comes to the end of its frame. -/
theorem encodeFrame_good (hlegal : legalEncode f o)
    (hgood : ∀ mb b, mb < o.mbCount → b < 6 → goodAnswer f (askedScale f o mb b) (answerOf f o mb b)) (st : EncSt) :
    encodeFrame (frameJob f o) st = finishFrame (frameJob f o) (blocksEncoded f o) := by
  have hall : ∀ p ∈ blockOrder o.mbCount, goodAnswer f (askedScale f o p.1 p.2) (answerOf f o p.1 p.2) := fun p hp => by
    rw [blockOrder_eq] at hp
    obtain ⟨k, hk, rfl⟩ := List.mem_map.1 hp
    have := List.mem_range.1 hk
    exact hgood _ _ (by simp only; omega) (Nat.mod_lt _ (by decide))
  obtain ⟨st', rfl, -, hblocks⟩ := encodeBlocks_good (st := blocksStart f o) hlegal [] hall (SameScales.refl _)
  rw [List.append_nil] at hblocks
  rw [encodeFrame_legal hlegal, hblocks]
  rfl

/-- A frame that is assembled has an Iki table its header can carry (log 17). -/
theorem tableFits_of_assembles (h : assembles (frameJob f o) (blocksEncoded f o).enc = true) : tableFits f o := by
  rintro rfl
  simp only [assembles, frameJob, bne_self_eq_false, Bool.false_or] at h
  exact of_decide_eq_true h

end

section
variable {s : State} {fmt : BitVec 3} {f : Format}

/-- Refused operands leave OUT empty (log 8). -/
theorem exec_encFrame_illegal (hf : Format.ofCode fmt = some f) (h : ¬ legalEncode f s.host.operands) :
    exec (.encFrame fmt) s = .next (encodeFailed s 6#4 4) := by
  have hjob : jobLegal (frameJob f s.host.operands) = false := Bool.eq_false_iff.2 (mt (jobLegal_iff _ _).1 h)
  change execEncFrame fmt s = _
  simp only [execEncFrame, hf, hjob, Bool.not_false, if_true, raise_encoder]
  rfl

/-- The exception of an encode is that of the command, with OUT empty (60_exceptions.md R293). -/
theorem exec_encFrame_raises (hf : Format.ofCode fmt = some f) (hlegal : legalEncode f s.host.operands) {e : Exc}
    (h : (encodeFrame (frameJob f s.host.operands) (encSt s)).2 = .raised e) :
    ∃ enc w, exec (.encFrame fmt) s = .next (encodeFailed { s with enc := enc, wr := w } e.code e.info) := by
  rcases hres : encodeFrame (frameJob f s.host.operands) (encSt s) with ⟨st, res⟩
  rw [hres] at h
  obtain rfl : res = .raised e := h
  refine ⟨st.enc, st.wr, ?_⟩
  change execEncFrame fmt s = _
  simp only [execEncFrame, hf, (jobLegal_iff _ _).2 hlegal, Bool.not_true, Bool.false_eq_true, if_false, hres,
    raise_encoder]
  rfl

/-- Settles O46: the operands first, then the answers in order, then the end of the frame. -/
theorem encFrameChecks : Obligations.EncFrameChecks := by
  intro s fmt o
  refine ⟨fun hf => ?_, fun f hf => ⟨exec_encFrame_illegal hf, fun hlegal hgood => ?_, ?_⟩⟩
  · change execEncFrame fmt s = _
    rw [execEncFrame, hf]
    rfl
  · refine or_iff_not_imp_left.2 fun hbig => ?_
    refine exec_encFrame_raises (e := excContract .badOperand) hf hlegal ?_
    rw [encodeFrame_good hlegal hgood]
    exact if_neg (mt tableFits_of_assembles hbig)
  · intro mb b hlegal hmb hb q blk hgood
    have hraises : ∀ e : Exc, (∀ st, AtWork f o st → (encodeOne o.source mb b st).2 = some e) →
        ∃ enc w, exec (.encFrame fmt) s = .next (encodeFailed { s with enc := enc, wr := w } e.code e.info) :=
      fun e he => exec_encFrame_raises hf hlegal (encodeFrame_raises hlegal hmb hb hgood he _)
    refine ⟨fun hbad => hraises (excContract .badSource) fun st hst => ?_,
      fun hblock htop => hraises (excIncompatible (6 * mb + b)) fun st hst => ?_,
      fun before c after hblock htop hlain hcodes hbefore hlook hrange =>
        hraises (excTooMuchEnergy (mdecBottom c)) fun st hst => ?_⟩
    · rw [encodeOne_badSource hlegal hst hbad]
    · rw [encodeOne_incompatible hlegal hst hblock htop]
    · have hacs := encodeAcs_raises (after := after) ((hst.encodeDc_format mb b (blk.headD 0)).trans hlain)
        (fun c' hc' ⟨hl, hr⟩ => hr (hbefore c' hc' hl)) ⟨hlook, hrange⟩
      rw [← hcodes] at hacs
      rw [encodeOne_encodes hlegal hst hblock htop, encodeBlock_exception]
      exact hacs

end

end Sys2Proof.Machine
end

section
/-! PROOFS. 40_bit_cursor.md R121 to R131: the reader's commands in terms of the stream ahead (O13, O14, O15, O17, O18).
A moving command is refused, finds all its bits, or ends the stream; each case is said once for the three of them. -/

namespace Sys2Proof.Machine

/-! ### Refusals (60_exceptions.md R287, R293) -/

/-- A command outside a decode and an encode raises with the error registers, a report and a diagnostic entry alone. -/
theorem raise_other (s : State) (e : Exc) (v : Option Int) : s.raise .other e v = refusedWith s e.code e.info v := by
  simp [State.raise, refusedWith]

theorem violate_eq (s : State) (c : Contract) : violate s c = .next (violated s (contractCode c)) := by
  rw [violate, raise_other]
  rfl

theorem legalWidth_iff (n : BitVec 5) : legalWidth n = true ↔ n ≠ 0 := by simp [legalWidth]

/-! ### Taking bits (40_bit_cursor.md R121, R126) -/

/-- Settles O13: taking bits delivers the opening of the stream ahead and moves the cursor behind it. -/
theorem takeBits_delivers : Obligations.TakeBits := by
  intro s n hs
  have hlen := ahead_length hs
  obtain ⟨hvalue, hgot⟩ := Prod.ext_iff.1 (peekBits_eq n hs)
  have hcount : (takeBits s.frame s.rd n).got = min n (ahead s).length := hgot
  refine ⟨hlen, hlen ▸ hcount, ?_, ?_⟩
  · rw [hcount]
    exact hvalue
  · rw [hcount]
    exact advanced_takeBits hs n

section
variable {s : State}

/-- A read delivers what a taking of bits does; BR_EOS stays set, or is set when the stream came short. -/
theorem readBits_eq (hs : ReaderOk s) (n : Nat) :
    readBits s.frame s.rd n =
      ⟨ofBits ((ahead s).take n) * 2 ^ (n - min n (ahead s).length), min n (ahead s).length,
        { (takeBits s.frame s.rd n).regs with
          eos := eosAfter (takeBits s.frame s.rd n).regs.eos (min n (ahead s).length) n }⟩ := by
  obtain ⟨hvalue, hgot⟩ := Prod.ext_iff.1 (peekBits_eq n hs)
  have hcount : (takeBits s.frame s.rd n).got = min n (ahead s).length := hgot
  rw [readBits, hcount, Taken.mk.injEq]
  exact ⟨hvalue, rfl, rfl⟩

/-! ### The moving commands (40_bit_cursor.md R125, R127, R130) -/

/-- The report of a moving command whose bits were all there: a read's value, and nothing for a skip. -/
def movedReply (v : Option Int) : Reply := v.elim .done .value

theorem exec_brReadu (n : BitVec 5) (s : State) : exec (.brReadu n) s = readCommand n (fun v => some (v : Int)) s := rfl

theorem exec_brReads (n : BitVec 5) (s : State) :
    exec (.brReads n) s = readCommand n (fun v => some (sext n.toNat v)) s := rfl

theorem exec_brSkip (n : BitVec 5) (s : State) : exec (.brSkip n) s = readCommand n (fun _ => none) s := rfl

theorem readCommand_zero (view : Nat → Option Int) (s : State) : readCommand 0 view s = .next (violated s 3) :=
  violate_eq s .badWidth

/-- The reader belongs to the decoder while a frame is decoded (40_bit_cursor.md R124). -/
theorem readCommand_of_active {n : BitVec 5} (view : Nat → Option Int) (hn : n ≠ 0)
    (hactive : decodeActive s = true) : readCommand n view s = .next (violated s 4) := by
  simp [readCommand, readerRefusal, (legalWidth_iff n).2 hn, hactive, violate_eq, contractCode]

/-- A moving command outside a decode reads. -/
theorem readCommand_of_idle {n : BitVec 5} (view : Nat → Option Int) (hn : n ≠ 0) (hidle : decodeActive s = false) :
    readCommand n view s =
      let t := readBits s.frame s.rd n.toNat
      if t.got < n.toNat then .next (refusedWith (s.withRd t.regs) 2#4 t.got (view t.value))
      else .next (answered (s.withRd t.regs) (movedReply (view t.value))) := by
  simp only [readCommand, readerRefusal, (legalWidth_iff n).2 hn, hidle, raise_other]
  cases view (readBits s.frame s.rd n.toNat).value <;> rfl

/-- Where n bits are ahead a moving command takes and reports them. -/
theorem readCommand_of_le {n : BitVec 5} (view : Nat → Option Int) (hs : ReaderOk s) (hn : n ≠ 0)
    (hidle : decodeActive s = false) (h : n.toNat ≤ (ahead s).length) :
    readCommand n view s =
      .next (answered (s.withRd (takeBits s.frame s.rd n.toNat).regs)
        (movedReply (view (ofBits ((ahead s).take n.toNat) * 2 ^ (n.toNat - min n.toNat (ahead s).length))))) := by
  simp [readCommand_of_idle view hn hidle, readBits_eq hs, Nat.min_eq_left h, eosAfter]

/-- Where the stream ends before n bits a moving command takes what is left, sets BR_EOS and raises EndOfStream
(40_bit_cursor.md R126). -/
theorem readCommand_of_lt {n : BitVec 5} (view : Nat → Option Int) (hs : ReaderOk s) (hn : n ≠ 0)
    (hidle : decodeActive s = false) (h : (ahead s).length < n.toNat) :
    readCommand n view s =
      .next (refusedWith (s.withRd { (takeBits s.frame s.rd n.toNat).regs with eos := true }) 2#4
        (min n.toNat (ahead s).length : Nat)
        (view (ofBits ((ahead s).take n.toNat) * 2 ^ (n.toNat - min n.toNat (ahead s).length)))) := by
  simp [readCommand_of_idle view hn hidle, readBits_eq hs, Nat.min_eq_right h.le, eosAfter, h]

end

/-- Settles O14: the three commands are one read with three views of its value. -/
theorem readCommands : Obligations.ReadCommands := by
  intro s n hs hn hidle k v
  rw [exec_brReadu, exec_brReads, exec_brSkip]
  refine ⟨_, advanced_takeBits hs n.toNat, fun h => ?_, fun h => ?_⟩
  · have hread := fun view => readCommand_of_le view hs hn hidle h
    exact ⟨hread _, hread _, hread _⟩
  · have hread := fun view => readCommand_of_lt view hs hn hidle h
    exact ⟨hread _, hread _, hread _⟩

/-- Settles O15: a peek changes only the report, so the read after it stands before the same stream. -/
theorem peekThenRead : Obligations.PeekThenRead := by
  intro s n hs hn hidle
  let v := ofBits ((ahead s).take n.toNat) * 2 ^ (n.toNat - min n.toNat (ahead s).length)
  let t := answered s (.peek v (min n.toNat (ahead s).length))
  obtain ⟨r, hadv, hfull, hshort⟩ := readCommands t n ((readerOk_iff t).2 ((readerOk_iff s).1 hs)) hn hidle
  have hmoved : bitsRead r = bitsRead s.rd + min n.toNat (bitsRemaining s.rd) := ahead_length hs ▸ hadv.count
  have hpeek : exec (.brPeeku n) s = .next t := peekCommand_eq _ hs hn
  rcases Nat.lt_or_ge (ahead s).length n.toNat with hlt | hle
  · obtain ⟨hread, -, -⟩ := hshort hlt
    exact ⟨v, _, t, _, hpeek, rfl, rfl, hread, .inr rfl, hmoved⟩
  · obtain ⟨hread, -, -⟩ := hfull hle
    exact ⟨v, _, t, _, hpeek, rfl, rfl, hread, .inl rfl, hmoved⟩

/-! ### BR_INIT and the refusals -/

/-- The one condition BR_INIT checks (40_bit_cursor.md R124). -/
theorem brInit_check_iff (s : State) :
    (!legalSpan s.host.operands.start s.host.operands.stop s.host.operands.buffer.length || decodeActive s) = false ↔
      s.host.operands.start ≤ s.host.operands.stop ∧ s.host.operands.stop ≤ s.host.operands.buffer.length ∧
        decodeActive s = false := by
  simp [legalSpan, and_assoc]

/-- Settles O17: the condition holds and the buffer is loaded, or BAD_OPERAND. -/
theorem brInit : Obligations.BrInit := by
  intro s pol o
  refine ⟨fun h => ?_, fun h => ?_⟩
  · change execBrInit pol s = _
    simp only [execBrInit, (brInit_check_iff s).2 h]
    rfl
  · change execBrInit pol s = _
    simp only [execBrInit, eq_true_of_ne_false (mt (brInit_check_iff s).1 h), if_true, violate_eq]
    rfl

/-- Settles O18: the width is checked before anything else, then the owner of the reader. -/
theorem readerRefusals : Obligations.ReaderRefusals := by
  refine fun s => ⟨?_, fun n hn hactive => ?_⟩
  · have hwidth : violate s .badWidth = .next (violated s 3) := violate_eq s .badWidth
    simp only [List.forall_mem_cons, exec_brReadu, exec_brReads, exec_brSkip]
    exact ⟨readCommand_zero _ s, readCommand_zero _ s, readCommand_zero _ s, hwidth, hwidth, hwidth, nofun⟩
  · have hrefused := fun view => readCommand_of_active view hn hactive
    simp only [List.forall_mem_cons, exec_brReadu, exec_brReads, exec_brSkip]
    exact ⟨hrefused _, hrefused _, hrefused _, nofun⟩

end Sys2Proof.Machine
end

section
/-! PROOFS. 40_bit_cursor.md R134 to R138: the writer's commands and its output (O19, O20, O21, O22). The bits of the
aligned bytes are the bits written and zeros after them; from this both the output's bytes and what a reader delivers of
them follow. -/

namespace Sys2Proof.Machine

/-! ### The bits of bytes (20_memory.md R63) -/

/-- The bits of a list of bytes, each byte's most significant bit first. -/
def bitsOfBytes (bytes : List Byte) : Bits := bytes.flatMap fun b => toBits 8 b.toNat

@[simp] theorem bitsOfBytes_nil : bitsOfBytes [] = [] := rfl

@[simp] theorem bitsOfBytes_cons (b : Byte) (bytes : List Byte) :
    bitsOfBytes (b :: bytes) = toBits 8 b.toNat ++ bitsOfBytes bytes := rfl

theorem bitsOfBytes_append (l l' : List Byte) : bitsOfBytes (l ++ l') = bitsOfBytes l ++ bitsOfBytes l' :=
  List.flatMap_append

theorem bitsOfBytes_length (bytes : List Byte) : (bitsOfBytes bytes).length = 8 * bytes.length := by
  simp [bitsOfBytes, List.length_flatMap, Nat.mul_comm]

theorem bitsOfBytes_zeros (n : Nat) : bitsOfBytes (List.replicate n 0#8) = List.replicate (8 * n) false := by
  induction n with
  | zero => rfl
  | succ n ih =>
    rw [List.replicate_succ, bitsOfBytes_cons, ih, Nat.mul_succ, Nat.add_comm, List.replicate_add]
    rfl

theorem toBits_getD {n k : Nat} (v : Nat) (h : k < n) : (toBits n v).getD k false = v.testBit (n - 1 - k) := by
  induction n generalizing k with
  | zero => omega
  | succ n ih =>
    cases k with
    | zero => rfl
    | succ k =>
      rw [toBits, List.getD_cons_succ, ih (by omega)]
      congr 1
      omega

/-- Bit k of byte j, counted from the most significant, is bit 8j + k of the bits. -/
theorem bitsOfBytes_getD (bytes : List Byte) (j : Nat) {k : Nat} (hk : k < 8) :
    (bitsOfBytes bytes).getD (8 * j + k) false = (bytes.getD j 0).getLsbD (7 - k) := by
  induction bytes generalizing j with
  | nil => simp
  | cons b bytes ih =>
    rw [bitsOfBytes_cons]
    cases j with
    | zero => rw [List.getD_append _ _ _ _ (by simp; omega), Nat.mul_zero, Nat.zero_add, toBits_getD _ hk]; rfl
    | succ j =>
      rw [List.getD_append_right _ _ _ _ (by simp; omega), toBits_length, List.getD_cons_succ, ← ih]
      congr 1
      omega

/-- The byte made of eight bits has those bits. -/
theorem toBits_byte {l : Bits} (h : l.length = 8) : toBits 8 (BitVec.ofNat 8 (ofBits l)).toNat = l := by
  rw [BitVec.toNat_ofNat, toBits_mod 8 8 _ le_rfl]
  exact h ▸ toBits_ofBits l

theorem ofBits_concat (l : Bits) (b : Bool) : ofBits (l ++ [b]) = 2 * ofBits l + b.toNat := by
  simp [ofBits_append, Nat.mul_comm]

/-! ### The logical bytes of a writer (40_bit_cursor.md R137) -/

/-- The zero bits that fill the last partial byte of n bits. -/
def fillBits (n : Nat) : Nat := (8 - n % 8) % 8

/-- Packing with the bits `pre` of the byte begun gives the bytes of `pre`, the bits, and the fill of the last byte. -/
theorem bitsOfBytes_packBits (bits : Bits) {pre : Bits} (h : pre.length < 8) :
    bitsOfBytes (packBits bits (ofBits pre) pre.length) =
      pre ++ bits ++ List.replicate (fillBits (pre.length + bits.length)) false := by
  induction bits generalizing pre with
  | nil =>
    rcases Nat.eq_zero_or_pos pre.length with hzero | hpos
    · simp [List.eq_nil_of_length_eq_zero hzero, packBits, fillBits]
    · have hfill : fillBits pre.length = 8 - pre.length := by rw [fillBits]; omega
      have hvalue : ofBits pre * 2 ^ (8 - pre.length) = ofBits (pre ++ List.replicate (8 - pre.length) false) := by
        rw [ofBits_append, ofBits_replicate_false, List.length_replicate, Nat.add_zero]
      rw [packBits, if_neg (by omega), hvalue, bitsOfBytes_cons, toBits_byte (by simp; omega)]
      simp [hfill]
  | cons b bits ih =>
    have hlen : (pre ++ [b]).length = pre.length + 1 := by simp
    rw [packBits, ← ofBits_concat]
    split
    · next hlast =>
      have hwhole : fillBits (pre.length + (b :: bits).length) = fillBits bits.length := by
        simp only [fillBits, List.length_cons]
        omega
      have hrest := ih (pre := []) (by simp)
      rw [ofBits_nil, List.length_nil, Nat.zero_add, List.nil_append] at hrest
      rw [bitsOfBytes_cons, toBits_byte (by omega), hrest, hwhole]
      simp
    · rw [← hlen, ih (by omega), hlen]
      simp [Nat.add_assoc, Nat.add_comm 1]

/-- The logical bytes before the alignment hold the bits in as few bytes as can be. -/
theorem bitsOfBytes_logical (bits : Bits) :
    bitsOfBytes (packBits bits 0 0) = bits ++ List.replicate (fillBits bits.length) false := by
  have h := bitsOfBytes_packBits bits (pre := []) (by simp)
  simpa using h

/-- The aligned bytes hold the written bits, then zeros. -/
theorem bitsOfBytes_alignedBytes (bits : Bits) (a : Align) :
    ∃ zeros, bitsOfBytes (alignedBytes bits a) = bits ++ List.replicate zeros false := by
  rw [alignedBytes, bitsOfBytes_append, bitsOfBytes_logical, bitsOfBytes_zeros, List.append_assoc,
    List.replicate_append_replicate]
  exact ⟨_, rfl⟩

/-- The aligned bytes are the least multiple of the alignment that holds the bits. -/
theorem alignedBytes_length (bits : Bits) (a : Align) :
    (alignedBytes bits a).length % alignBytes a = 0 ∧ bits.length ≤ 8 * (alignedBytes bits a).length ∧
      8 * (alignedBytes bits a).length < bits.length + 8 * alignBytes a := by
  have hlogical := congrArg List.length (bitsOfBytes_logical bits)
  rw [bitsOfBytes_length, List.length_append, List.length_replicate, fillBits] at hlogical
  simp only [alignedBytes, List.length_append, List.length_replicate]
  cases a <;> simp only [alignBytes] <;> omega

/-! ### The physical order (20_memory.md R62) -/

theorem phys_eq (p : Policy) (j : Nat) : phys p j = if p = .le16 then j ^^^ 1 else j := by cases p <;> rfl

theorem phys_phys (p : Policy) (j : Nat) : phys p (phys p j) = j := by cases p <;> simp [phys]

/-- The physical order stays inside an output that is a whole number of words where bytes are swapped. -/
theorem phys_lt {p : Policy} {j n : Nat} (hn : p = .le16 → n % 2 = 0) (hj : j < n) : phys p j < n := by
  cases p
  · have heven := hn rfl
    rcases Nat.even_or_odd j with h | h
    · rw [phys, Nat.xor_one_of_even h]
      have := Nat.even_iff.1 h
      omega
    · rw [phys, Nat.xor_one_of_odd h]
      omega
  · exact hj

theorem finalBytes_length (bits : Bits) (p : Policy) (a : Align) :
    (finalBytes bits p a).length = (alignedBytes bits a).length := by simp [finalBytes]

/-- Each logical byte stands at its physical offset. -/
theorem finalBytes_getD {bits : Bits} {p : Policy} {a : Align} (ha : p = .le16 → a ≠ .one) {j : Nat}
    (hj : j < (alignedBytes bits a).length) :
    (finalBytes bits p a).getD (if p = .le16 then j ^^^ 1 else j) 0 = (alignedBytes bits a).getD j 0 := by
  have heven : p = .le16 → (alignedBytes bits a).length % 2 = 0 := fun hp => by
    have hmod := (alignedBytes_length bits a).1
    cases a <;> simp only [alignBytes] at hmod
    · exact absurd rfl (ha hp)
    · exact hmod
    · omega
  have hlt := phys_lt heven hj
  rw [← phys_eq, List.getD_eq_getElem _ _ (by rwa [finalBytes_length])]
  simp [finalBytes, phys_phys]

/-! ### The writer's commands -/

/-- The reserved alignment code is 3. -/
theorem alignOfCode_eq_none_iff (al : BitVec 2) : alignOfCode al = none ↔ al = 3 := by
  revert al
  decide

theorem alignOfCode_some {al : BitVec 2} {a : Align} (h : alignOfCode al = some a) :
    alignBytes a = 2 ^ al.toNat ∧ (a = .one ↔ al = 0) := by
  revert al a
  decide

/-- Settles O19: the code is reserved, or the writer starts unless LE16 meets one byte. -/
theorem bwInit : Obligations.BwInit := by
  intro s pol al
  change (_ → execBwInit pol al s = _) ∧ (_ → ∃ a, _ ∧ execBwInit pol al s = _)
  cases hcode : alignOfCode al with
  | none =>
    have hreserved := (alignOfCode_eq_none_iff al).1 hcode
    simp only [execBwInit, hcode, violate_eq]
    exact ⟨fun _ => rfl, fun h => absurd (.inl hreserved) h⟩
  | some a =>
    have hlegal : al ≠ 3 := fun h => by rw [(alignOfCode_eq_none_iff al).2 h] at hcode; nomatch hcode
    obtain ⟨hbytes, hone⟩ := alignOfCode_some hcode
    simp only [execBwInit, hcode, hone, violate_eq]
    refine ⟨fun h => ?_, fun h => ⟨a, hbytes, ?_⟩⟩
    · rw [if_pos (h.resolve_left hlegal)]
      rfl
    · rw [if_neg fun hswapped => h (.inr hswapped)]
      rfl

theorem all_isBitChar_iff (cs : List Char) : cs.all isBitChar = true ↔ ∀ c ∈ cs, c = '0' ∨ c = '1' := by
  simp [isBitChar]

/-- A closed writer refuses before the string is looked at, and after the width. -/
theorem exec_writer_closed {s : State} {n : BitVec 5} (hn : n ≠ 0) (hclosed : s.wr.final = true) :
    exec (.bwWritev n) s = .next (violated s 7) ∧ exec .bwWritestr s = .next (violated s 7) ∧
      exec .bwFinal s = .next (violated s 7) := by
  change execBwWritev n s = _ ∧ execBwWritestr s = _ ∧ execBwFinal s = _
  simp only [execBwWritev, execBwWritestr, execBwFinal, writerClosed, (legalWidth_iff n).2 hn, hclosed, violate_eq]
  exact ⟨rfl, rfl, rfl⟩

theorem exec_bwWritev_open {s : State} {n : BitVec 5} (hn : n ≠ 0) (hopen : s.wr.final = false) :
    exec (.bwWritev n) s =
      .next (answered (s.withWr (writeBits s.wr (toBits n.toNat (lowBits n.toNat s.host.operands.value)))) .done) := by
  change execBwWritev n s = _
  simp only [execBwWritev, writerClosed, (legalWidth_iff n).2 hn, hopen]
  rfl

theorem exec_bwWritestr_open {s : State} (hopen : s.wr.final = false)
    (hchars : ∀ c ∈ s.host.operands.chars, c = '0' ∨ c = '1') :
    exec .bwWritestr s =
      .next (answered (s.withWr (writeBits s.wr (s.host.operands.chars.map (· == '1')))) .done) := by
  change execBwWritestr s = _
  simp only [execBwWritestr, writerClosed, (all_isBitChar_iff _).2 hchars, hopen]
  rfl

/-- The characters are checked before any bit is written (40_bit_cursor.md R136). -/
theorem exec_bwWritestr_badChar {s : State} (hopen : s.wr.final = false)
    (hchars : ¬ ∀ c ∈ s.host.operands.chars, c = '0' ∨ c = '1') : exec .bwWritestr s = .next (violated s 4) := by
  change execBwWritestr s = _
  simp only [execBwWritestr, writerClosed, Bool.eq_false_iff.2 (mt (all_isBitChar_iff _).1 hchars), hopen, violate_eq]
  rfl

/-- Settles O20: the open writer appends or refuses the string, and the closed one refuses. -/
theorem writerCommands : Obligations.WriterCommands := by
  refine fun s n hn => ⟨fun hopen => ⟨exec_bwWritev_open hn hopen, exec_bwWritestr_open hopen, ?_⟩,
    exec_writer_closed hn⟩
  rintro ⟨c, hmem, hzero, hone⟩
  exact exec_bwWritestr_badChar hopen fun h => (h c hmem).elim hzero hone

/-- Zeros behind a bit string are what it reads as beyond its end. -/
theorem getD_append_zeros (l : Bits) (n i : Nat) : (l ++ List.replicate n false).getD i false = l.getD i false := by
  rcases Nat.lt_or_ge i l.length with h | h
  · exact List.getD_append _ _ _ _ h
  · rw [List.getD_append_right _ _ _ _ h, List.getD_eq_getElem?_getD,
      List.getElem?_getD_replicate_default_eq, List.getD_eq_default _ _ h]

/-- Settles O21: the output's bytes are the aligned bytes, and their bits the written ones and zeros. -/
theorem bwFinal : Obligations.BwFinal := by
  intro s hwr hopen
  have hlen := finalBytes_length s.wr.bits s.wr.policy s.wr.align
  obtain ⟨hmultiple, henough, hleast⟩ := alignedBytes_length s.wr.bits s.wr.align
  obtain ⟨zeros, hbits⟩ := bitsOfBytes_alignedBytes s.wr.bits s.wr.align
  refine ⟨finalBytes s.wr.bits s.wr.policy s.wr.align, ?_, hlen ▸ hmultiple, hlen ▸ henough, hlen ▸ hleast,
    fun j hj k hk => ?_⟩
  · change execBwFinal s = _
    simp only [execBwFinal, writerClosed, hopen]
    rfl
  · rw [finalBytes_getD hwr (hlen ▸ hj), ← bitsOfBytes_getD _ j hk, hbits, getD_append_zeros]

/-! ### The writer's output read back (40_bit_cursor.md R138) -/

/-- A list is its elements in order of their positions. -/
theorem map_range_getD (l : List Byte) : (List.range l.length).map (fun j => l.getD j 0) = l := by
  apply List.ext_getElem
  · simp
  · intro i h h'
    simp [h']

/-- Settles O22: the reader's stream is the output's bytes in logical order, which are the aligned bytes. -/
theorem writerReaderAgree : Obligations.WriterReaderAgree := by
  intro bits pol a ha heven
  obtain ⟨zeros, hbits⟩ := bitsOfBytes_alignedBytes bits a
  refine ⟨zeros, ?_⟩
  have hlen := finalBytes_length bits pol a
  have hwords : 2 * (((finalBytes bits pol a).length - 0) / 2) = (alignedBytes bits a).length := by omega
  rw [logicalStream _ 0 _ pol (Nat.zero_le _) le_rfl, hwords, ← hbits, bitsOfBytes]
  conv_rhs => rw [← map_range_getD (alignedBytes bits a), List.flatMap_map]
  refine List.flatMap_congr fun j hj => ?_
  rw [Nat.zero_add, finalBytes_getD ha (List.mem_range.1 hj)]

end Sys2Proof.Machine
end

section
/-! PROOFS. 41_code_table.md R151 to R157: the code tables, their lookups and the two table commands (O3, O4, O5, O23).
Both dialects bind an assignment that passes the checks to the catalog's strings, so what is said of a dialect's meanings
is read off the checks; what is said of its windows is read off the catalog, whose strings and twelve zeros leave no
window out. -/

namespace Sys2Proof.Machine

/-! ### The builder's checks as properties (41_code_table.md R151) -/

theorem prefixFree_iff (codes : List Bits) : prefixFree codes = true ↔ codes.Pairwise Apart := by
  induction codes with
  | nil => simp [prefixFree]
  | cons a codes ih => simp [prefixFree, ih, Apart, ← List.isPrefixOf_iff_prefix]

/-- Checking the escape and the end-of-block by their counts, and the pairs apart from them, asks that all meanings
differ and both be there. -/
theorem counted_once_iff (l : List CodeMeaning) :
    (l.count .esc = 1 ∧ l.count .eob = 1 ∧ (l.filter fun m => m != .esc && m != .eob).Nodup) ↔
      l.Nodup ∧ .esc ∈ l ∧ .eob ∈ l := by
  constructor
  · rintro ⟨hesc, heob, hpairs⟩
    refine ⟨List.nodup_iff_count_le_one.2 fun m => ?_, List.count_pos_iff.1 (by omega),
      List.count_pos_iff.1 (by omega)⟩
    cases m with
    | esc => exact hesc.le
    | eob => exact heob.le
    | ac run level =>
      rw [← List.count_filter (p := fun m => m != .esc && m != .eob) (by rfl)]
      exact List.nodup_iff_count_le_one.1 hpairs _
  · rintro ⟨hnodup, hesc, heob⟩
    exact ⟨List.count_eq_one_of_mem hnodup hesc, List.count_eq_one_of_mem hnodup heob, hnodup.filter _⟩

/-- The meanings that an assignment gives to the 224 strings, in ordinal order (30_encoding.md R90). -/
def boundMeanings (f : Nat → CodeMeaning) : List CodeMeaning := (List.range 224).map f

theorem assignmentOk_iff (f : Nat → CodeMeaning) :
    assignmentOk f = true ↔ (boundMeanings f).Nodup ∧ (∀ m ∈ boundMeanings f, legalMeaning m = true) ∧
      .esc ∈ boundMeanings f ∧ .eob ∈ boundMeanings f := by
  simp only [assignmentOk, boundMeanings, Bool.and_eq_true, decide_eq_true_eq, List.all_eq_true,
    List.contains_iff_mem, and_assoc]

/-! ### A table bound to the catalog (41_code_table.md R150) -/

theorem bindTable_meanings (f : Nat → CodeMeaning) : (bindTable f).map Entry.meaning = boundMeanings f := by
  rw [boundMeanings, ← catalog_ordinals, bindTable, List.map_map, List.map_map]
  rfl

theorem bindTable_ordinals (f : Nat → CodeMeaning) : (bindTable f).map Entry.ordinal = List.range 224 := by
  rw [← catalog_ordinals, bindTable, List.map_map]
  rfl

theorem bindTable_bits (f : Nat → CodeMeaning) : (bindTable f).map Entry.bits = catalog.map Entry.bits := by
  rw [bindTable, List.map_map]
  rfl

/-- Ordinals and strings are the catalog's, so the builder's checks rest on the meanings alone. -/
theorem builderOk_bindTable_iff (f : Nat → CodeMeaning) :
    builderOk (bindTable f) = true ↔
      (boundMeanings f).Nodup ∧ .esc ∈ boundMeanings f ∧ .eob ∈ boundMeanings f := by
  rw [← counted_once_iff]
  simp only [builderOk, bindTable_meanings, bindTable_ordinals, bindTable_bits, (prefixFree_iff _).2 catalog_apart,
    Bool.and_eq_true, beq_iff_eq, decide_eq_true_eq, and_true, and_assoc]

/-- The assignment that a dialect binds to the 224 strings (30_encoding.md R87, R90). -/
def tableMeaning : Dialect → Nat → CodeMeaning
  | .standard => stdMeaning
  | .lain => Config.lainAcTable.meaning

theorem bindTable_stdMeaning : bindTable stdMeaning = catalog := by
  have hself : ∀ e ∈ catalog, { e with meaning := stdMeaning e.ordinal } = e := fun e he => by
    simp [stdMeaning, catalog_of_mem he]
  rw [bindTable, List.map_congr_left hself, List.map_id']

theorem codeTable_eq_bindTable (d : Dialect) : codeTable d = bindTable (tableMeaning d) := by
  cases d
  · exact bindTable_stdMeaning.symm
  · rfl

theorem assignmentOk_stdMeaning : assignmentOk stdMeaning = true := by decide +kernel

theorem assignmentOk_tableMeaning (d : Dialect) : assignmentOk (tableMeaning d) = true := by
  cases d
  · exact assignmentOk_stdMeaning
  · exact Config.lainAcTable.legal

theorem codeTable_meanings (d : Dialect) : (codeTable d).map Entry.meaning = boundMeanings (tableMeaning d) := by
  rw [codeTable_eq_bindTable, bindTable_meanings]

/-- No two entries of a dialect mean the same (41_code_table.md R151). -/
theorem eq_of_meaning_eq {d : Dialect} {e e' : Entry} (he : e ∈ codeTable d) (he' : e' ∈ codeTable d)
    (h : e.meaning = e'.meaning) : e = e' := by
  obtain ⟨hnodup, -⟩ := (assignmentOk_iff _).1 (assignmentOk_tableMeaning d)
  rw [← codeTable_meanings] at hnodup
  exact List.inj_on_of_nodup_map hnodup he he' h

theorem legalMeaning_of_mem {d : Dialect} {e : Entry} (he : e ∈ codeTable d) : legalMeaning e.meaning = true := by
  obtain ⟨-, hlegal, -⟩ := (assignmentOk_iff _).1 (assignmentOk_tableMeaning d)
  exact hlegal _ (codeTable_meanings d ▸ List.mem_map_of_mem he)

theorem exists_esc_and_eob (d : Dialect) :
    (∃ e ∈ codeTable d, e.meaning = .esc) ∧ ∃ e ∈ codeTable d, e.meaning = .eob := by
  obtain ⟨-, -, hesc, heob⟩ := (assignmentOk_iff _).1 (assignmentOk_tableMeaning d)
  rw [← codeTable_meanings] at hesc heob
  exact ⟨List.mem_map.1 hesc, List.mem_map.1 heob⟩

theorem two_le_catalog_length {e : Entry} (h : e ∈ catalog) : 2 ≤ e.bits.length := by
  have hall : catalog.all (fun e => decide (2 ≤ e.bits.length)) = true := by decide +kernel
  exact of_decide_eq_true (List.all_eq_true.1 hall e h)

/-! ### Power-on (60_exceptions.md R292, 70_reset_and_hazards.md R311) -/

theorem dcTableOk_true (luma : Bool) : dcTableOk luma = true := by cases luma <;> decide

/-- The build asks of LAIN_AC_TABLE what an assignment must be; its other tables pass their checks. -/
theorem buildSucceeds_eq (f : Nat → CodeMeaning) : buildSucceeds f = assignmentOk f := by
  have hstd : builderOk (codeTable .standard) = true := by
    obtain ⟨hnodup, -, hpresent⟩ := (assignmentOk_iff _).1 assignmentOk_stdMeaning
    exact codeTable_eq_bindTable .standard ▸ (builderOk_bindTable_iff _).2 ⟨hnodup, hpresent⟩
  rw [Bool.eq_iff_iff, assignmentOk_iff]
  simp only [buildSucceeds, hstd, dcTableOk_true, Bool.and_eq_true, and_true, builderOk_bindTable_iff, List.all_eq_true,
    boundMeanings]
  exact ⟨fun ⟨⟨hnodup, hpresent⟩, hlegal⟩ => ⟨hnodup, hlegal, hpresent⟩,
    fun ⟨hnodup, hlegal, hpresent⟩ => ⟨⟨hnodup, hpresent⟩, hlegal⟩⟩

theorem powerOn_eq (f : Nat → CodeMeaning) : powerOn f = if assignmentOk f then some State.reset else none := by
  rw [powerOn, buildSucceeds_eq]

/-- Settles O3: both tables bind an assignment that passes the checks to the catalog's strings. -/
theorem tableBuilt : Obligations.TableBuilt := by
  refine ⟨powerOn_eq, by rw [powerOn_eq, if_pos Config.lainAcTable.legal],
    fun luma => (prefixFree_iff _).1 (dcTableOk_true luma),
    fun d => ⟨(codeTable_ordinals d).trans catalog_ordinals, codeTable_apart d, fun e he => ?_,
      fun e he e' he' => eq_of_meaning_eq he he', fun e he run level hac => ?_, exists_esc_and_eob d⟩⟩
  · obtain ⟨c, hc, hbits⟩ := codeTable_bits_mem he
    exact hbits ▸ ⟨two_le_catalog_length hc, catalog_length_le hc⟩
  · have hlegal := legalMeaning_of_mem he
    simp only [hac, legalMeaning, Bool.and_eq_true, decide_eq_true_eq, bne_iff_ne] at hlegal
    obtain ⟨⟨⟨hrun, -⟩, -⟩, hlevel⟩ := hlegal
    exact ⟨hrun, hlevel⟩

/-! ### Windows as numbers (41_code_table.md R152) -/

/-- A string opens the n bits of a number exactly when the number's top bits have the string's value. -/
theorem prefix_toBits_iff {n w : Nat} (hw : w < 2 ^ n) {bits : Bits} (hlen : bits.length ≤ n) :
    bits <+: toBits n w ↔ w / 2 ^ (n - bits.length) = ofBits bits := by
  obtain ⟨m, rfl⟩ := Nat.exists_eq_add_of_le hlen
  rw [Nat.add_sub_cancel_left, toBits_add]
  have htop : w / 2 ^ m < 2 ^ bits.length := Nat.div_lt_of_lt_mul (by rwa [Nat.pow_add, Nat.mul_comm] at hw)
  constructor
  · intro h
    have hbits : bits = toBits bits.length (w / 2 ^ m) :=
      (List.prefix_of_prefix_length_le h (List.prefix_append _ _) (by simp)).eq_of_length (by simp)
    rw [hbits, ofBits_toBits, Nat.mod_eq_of_lt htop]
  · intro h
    rw [h, toBits_ofBits]
    exact List.prefix_append _ _

/-! ### No window is left out (30_encoding.md R89) -/

/-- Every string of n bits is opened by one of the codes: an empty code opens all, or the codes split by their first
bit cover the n - 1 bits that follow it. -/
def covers : Nat → List Bits → Bool
  | 0, codes => codes.contains []
  | n + 1, codes =>
    codes.contains [] || (covers n (codes.filterMap (afterBit false)) && covers n (codes.filterMap (afterBit true)))

theorem cons_mem_of_afterBit {b : Bool} {c : Bits} {codes : List Bits} (h : c ∈ codes.filterMap (afterBit b)) :
    b :: c ∈ codes := by
  obtain ⟨code, hcode, hafter⟩ := List.mem_filterMap.1 h
  match code with
  | [] => cases hafter
  | x :: s =>
    obtain ⟨rfl, hs⟩ := Option.ite_none_right_eq_some.1 hafter
    exact Option.some.inj hs ▸ hcode

theorem exists_prefix_of_covers {codes : List Bits} {w : Bits} (h : covers w.length codes = true) :
    ∃ c ∈ codes, c <+: w := by
  induction w generalizing codes with
  | nil => exact ⟨[], List.contains_iff_mem.1 h, List.nil_prefix⟩
  | cons b w ih =>
    simp only [List.length_cons, covers, Bool.or_eq_true, Bool.and_eq_true, List.contains_iff_mem] at h
    obtain hempty | ⟨hfalse, htrue⟩ := h
    · exact ⟨[], hempty, List.nil_prefix⟩
    · have hb : covers w.length (codes.filterMap (afterBit b)) = true := by
        cases b
        · exact hfalse
        · exact htrue
      obtain ⟨c, hc, hopens⟩ := ih hb
      exact ⟨b :: c, cons_mem_of_afterBit hc, List.cons_prefix_cons.2 ⟨rfl, hopens⟩⟩

/-- The codes that neither table has are those behind twelve zeros (30_encoding.md R89). -/
theorem covers_zeros_and_catalog : covers 17 (List.replicate 12 false :: catalog.map Entry.bits) = true := by
  decide +kernel

theorem zeros_prefix_iff {w : Nat} (hw : w < 2 ^ 17) : List.replicate 12 false <+: toBits 17 w ↔ w / 2 ^ 5 = 0 := by
  have h := prefix_toBits_iff hw (bits := List.replicate 12 false) (by decide)
  rwa [ofBits_replicate_false, List.length_replicate] at h

theorem lookup_eq_none_iff (d : Dialect) {w : Nat} (hw : w < 2 ^ 17) : lookup d w = none ↔ w / 2 ^ 5 = 0 := by
  rw [← zeros_prefix_iff hw]
  constructor
  · intro hnone
    have hcovered := covers_zeros_and_catalog
    rw [← toBits_length 17 w] at hcovered
    obtain ⟨c, hc, hopens⟩ := exists_prefix_of_covers hcovered
    rcases List.mem_cons.1 hc with rfl | hcode
    · exact hopens
    · rw [← codeTable_bits d] at hcode
      obtain ⟨e, he, rfl⟩ := List.mem_map.1 hcode
      rw [(lookup_eq_some_iff d w e).2 ⟨he, hopens⟩] at hnone
      cases hnone
  · intro hzeros
    exact lookup_eq_none_of_zeros (List.prefix_iff_eq_take.1 hzeros).symm

/-- Settles O4: a string opens the window where its value stands on top, and twelve zeros are all that no string opens. -/
theorem lookupSpec : Obligations.LookupSpec := by
  refine fun d w hw => ⟨fun e => ?_, lookup_eq_none_iff d hw⟩
  rw [lookup_eq_some_iff]
  exact and_congr_right fun he => prefix_toBits_iff hw (codeTable_length_le he)

/-! ### Decode and encode agree (41_code_table.md R155, R157) -/

/-- The encode lookup answers exactly the entry that means the pair. -/
theorem encodeLookup_eq_some_iff (d : Dialect) (run : Nat) (level : Int) (e : Entry) :
    encodeLookup d run level = some e ↔ e ∈ codeTable d ∧ e.meaning = .ac run level := by
  refine ⟨encodeLookup_some d run level e, fun ⟨he, hac⟩ => ?_⟩
  have hfound : (encodeLookup d run level).isSome = true :=
    List.find?_isSome.2 ⟨e, he, beq_iff_eq.2 hac⟩
  obtain ⟨e', he'⟩ := Option.isSome_iff_exists.1 hfound
  obtain ⟨hmem, hac'⟩ := encodeLookup_some d run level e' he'
  rw [he', eq_of_meaning_eq hmem he (hac'.trans hac.symm)]

/-- Settles O5: a code's value stands on top of every window that it opens, and its meaning is no other entry's. -/
theorem decodeEncodeAgreement : Obligations.DecodeEncodeAgreement := by
  refine fun d e run level he hac => ⟨fun x hx => ?_, (encodeLookup_eq_some_iff d run level e).2 ⟨he, hac⟩⟩
  have hwindow : ofBits e.bits * 2 ^ (17 - e.bits.length) + x < 2 ^ 17 := by
    calc ofBits e.bits * 2 ^ (17 - e.bits.length) + x
        < (ofBits e.bits + 1) * 2 ^ (17 - e.bits.length) := by rw [Nat.add_one_mul]; omega
      _ ≤ 2 ^ e.bits.length * 2 ^ (17 - e.bits.length) := Nat.mul_le_mul_right _ (ofBits_lt e.bits)
      _ = 2 ^ 17 := by rw [← Nat.pow_add, Nat.add_sub_cancel' (codeTable_length_le he)]
  have htop : (ofBits e.bits * 2 ^ (17 - e.bits.length) + x) / 2 ^ (17 - e.bits.length) = ofBits e.bits := by
    rw [Nat.mul_comm, Nat.mul_add_div (Nat.two_pow_pos _), Nat.div_eq_of_lt hx, Nat.add_zero]
  obtain ⟨hfinds, -⟩ := lookupSpec d _ hwindow
  exact (hfinds e).2 ⟨he, htop⟩

/-! ### The table commands (41_code_table.md R154, R156) -/

theorem exec_ctDecode_of_lt {s : State} (d : Dialect) (h : s.host.operands.window < 2 ^ 17) :
    exec (.ctDecode d) s = .next (answered s (decodeReply d s.host.operands.window)) := if_pos h

theorem exec_ctDecode_of_le {s : State} (d : Dialect) (h : 2 ^ 17 ≤ s.host.operands.window) :
    exec (.ctDecode d) s = .next (violated s 4) := (if_neg h.not_gt).trans (violate_eq s .badOperand)

theorem exec_ctEncode_of_legal {s : State} (d : Dialect)
    (h : s.host.operands.run ≤ 63 ∧ -512 ≤ s.host.operands.level ∧ s.host.operands.level ≤ 511) :
    exec (.ctEncode d) s = .next (answered s (encodeReply d s.host.operands.run s.host.operands.level)) := if_pos h

theorem exec_ctEncode_of_illegal {s : State} (d : Dialect)
    (h : ¬ (s.host.operands.run ≤ 63 ∧ -512 ≤ s.host.operands.level ∧ s.host.operands.level ≤ 511)) :
    exec (.ctEncode d) s = .next (violated s 4) := (if_neg h).trans (violate_eq s .badOperand)

/-- Settles O23: an operand in range is answered by the lookup, and any other is BAD_OPERAND. -/
theorem ctCommands : Obligations.CtCommands := by
  intro s d o
  refine ⟨exec_ctDecode_of_le d, fun h => ⟨_, exec_ctDecode_of_lt d h, fun hnone => ?_, fun e he => ?_⟩,
    exec_ctEncode_of_illegal d, fun h => ⟨_, exec_ctEncode_of_legal d h, fun hnone => ?_, fun e he => ?_⟩⟩
  · rw [decodeReply, hnone]
  · rw [decodeReply, he]
  · rw [encodeReply, hnone]
  · rw [encodeReply, he]

end Sys2Proof.Machine
end

section
/-! PROOFS. 42_headers.md R165 to R180: the header validators and HDR_IDENTIFY (O24, O25). A record names the format
that accepted its buffer, and no two STR versions accept one buffer, so the order decides nothing among them. -/

namespace Sys2Proof.Machine

section
variable {buf : List Byte} {len count : Nat} {p : FrameParams}

/-! ### STR headers (42_headers.md R167 to R170) -/

/-- A little-endian half-word holds a value exactly when its two bytes are the value's. -/
theorem u16At_eq_iff (buf : List Byte) (a : Nat) (lo hi : Byte) :
    u16At buf a = lo.toNat + 256 * hi.toNat ↔ buf.getD a 0#8 = lo ∧ buf.getD (a + 1) 0#8 = hi := by
  have hlo := (buf.getD a 0#8).isLt
  have hlo' := lo.isLt
  simp only [← BitVec.toNat_inj, u16At, byteAt]
  omega

theorem strValid_iff (f : Format) (buf : List Byte) (len : Nat) :
    strValid f buf len = true ↔
      8 ≤ len ∧ u16At buf 2 = 0x3800 ∧ (1 ≤ u16At buf 4 ∧ u16At buf 4 ≤ 63) ∧ u16At buf 6 = strVersion f := by
  simp only [strValid, Bool.and_eq_true, decide_eq_true_eq, beq_iff_eq, legalScale_iff, and_assoc]

/-- The version field makes the STR formats exclude one another. -/
theorem strVersion_eq_of_strValid {f g : Format} (hf : strValid f buf len = true) (hg : strValid g buf len = true) :
    strVersion f = strVersion g := by
  obtain ⟨-, -, -, hversion⟩ := (strValid_iff f buf len).1 hf
  obtain ⟨-, -, -, hversion'⟩ := (strValid_iff g buf len).1 hg
  exact hversion.symm.trans hversion'

theorem identifyAs_of_isStr {f : Format} (hf : isStr f = true) (buf : List Byte) (len count : Nat) :
    identifyAs f buf len count = if strValid f buf len then some (strParams f buf len count) else none := by
  cases f with
  | strv1 | strv2 | strv3 => rfl
  | iki | lain => cases hf

theorem identifyAs_of_strValid {f : Format} (hf : isStr f = true) (hvalid : strValid f buf len = true) :
    identifyAs f buf len count = some (strParams f buf len count) :=
  (identifyAs_of_isStr hf buf len count).trans (if_pos hvalid)

theorem strValid_of_identifyAs {f : Format} (hf : isStr f = true) (h : identifyAs f buf len count = some p) :
    strValid f buf len = true := by
  rw [identifyAs_of_isStr hf] at h
  exact (Option.ite_none_right_eq_some.1 h).1

/-- A buffer that one STR version accepts is refused by every other. -/
theorem identifyAs_eq_none_of_strValid {f g : Format} (hf : strValid f buf len = true) (hg : isStr g = true)
    (hne : strVersion f ≠ strVersion g) : identifyAs g buf len count = none :=
  (identifyAs_of_isStr hg buf len count).trans (if_neg fun h => hne (strVersion_eq_of_strValid hf h))

/-! ### Iki headers (42_headers.md R172 to R175) -/

theorem ikiFieldsValid_iff (buf : List Byte) (len : Nat) :
    ikiFieldsValid buf len = true ↔
      ikiLayout.lzOffset ≤ len ∧ readField buf ikiLayout.magic = ikiLayout.magicValue ∧
        0 < readField buf ikiLayout.width ∧ 0 < readField buf ikiLayout.height ∧
        readField buf ikiLayout.csize % 2 = 0 ∧ ikiLayout.lzOffset + readField buf ikiLayout.csize ≤ len := by
  simp only [ikiFieldsValid, Bool.and_eq_true, decide_eq_true_eq, beq_iff_eq, and_assoc]

/-- The header holds a table exactly when its LZSS data decompresses without a fault. -/
theorem ikiTableOf_eq_some_iff (buf table : List Byte) :
    ikiTableOf buf = some table ↔
      ∃ work, lzDecomp Config.lzssFlagOrder ((buf.drop ikiLayout.lzOffset).take (readField buf ikiLayout.csize))
        (12 * ikiMbc (readField buf ikiLayout.width) (readField buf ikiLayout.height)) = (work, none) ∧
        work.dst = table := by
  rw [ikiTableOf]
  split
  · next work hwork => simp [hwork]
  · next hwork => simp [hwork]

theorem identifyAs_iki_eq_some_iff :
    identifyAs .iki buf len count = some p ↔
      ikiFieldsValid buf len = true ∧ ∃ table, ikiTableOf buf = some table ∧
        p = { format := 3, buffer := buf, start := ikiBsOffset (readField buf ikiLayout.csize), stop := len,
              mbCount := ikiMbc (readField buf ikiLayout.width) (readField buf ikiLayout.height),
              ikiTable := table } := by
  rw [identifyAs, ikiParams]
  split
  · next hvalid =>
    split
    · next htable => simp [hvalid, htable, Format.code, eq_comm]
    · next htable => simp [htable]
  · next hvalid => simp [hvalid]

/-! ### Lain headers (42_headers.md R177, R178) -/

theorem lainValid_iff (buf : List Byte) (len : Nat) :
    lainValid buf len = true ↔
      lainLayout.bsOffset ≤ len ∧
        (1 ≤ readField buf lainLayout.qLuma ∧ readField buf lainLayout.qLuma ≤ 63) ∧
        (1 ≤ readField buf lainLayout.qChroma ∧ readField buf lainLayout.qChroma ≤ 63) ∧
        readField buf lainLayout.version = 0 ∧
        (readField buf lainLayout.magicOrFrame = 0x3800 ∨ readField buf lainLayout.magicOrFrame ≤ 4764) := by
  simp only [lainValid, Bool.and_eq_true, Bool.or_eq_true, decide_eq_true_eq, beq_iff_eq, legalScale_iff, and_assoc]

theorem identifyAs_lain_eq_some_iff :
    identifyAs .lain buf len count = some p ↔ lainValid buf len = true ∧ p = lainParams buf len count := by
  rw [identifyAs, Option.ite_none_right_eq_some, Option.some_inj, eq_comm (a := p)]

/-! ### The first format that matches (42_headers.md R165) -/

theorem identifyAs_format {f : Format} (h : identifyAs f buf len count = some p) : p.format = f.code := by
  cases f with
  | strv1 | strv2 | strv3 =>
    obtain ⟨-, hp⟩ := Option.ite_none_right_eq_some.1 h
    exact Option.some.inj hp ▸ rfl
  | iki =>
    obtain ⟨-, table, -, rfl⟩ := identifyAs_iki_eq_some_iff.1 h
    rfl
  | lain =>
    obtain ⟨-, rfl⟩ := identifyAs_lain_eq_some_iff.1 h
    rfl

theorem ofCode_code (f : Format) : Format.ofCode (BitVec.ofNat 3 f.code) = some f := by cases f <;> rfl

theorem format_eq_of_code_eq {f g : Format} (h : f.code = g.code) : f = g :=
  Option.some.inj (by rw [← ofCode_code f, h, ofCode_code])

theorem findSome?_of_first {α β : Type} {l : List α} {n : Nat} {a : α} {b : β} {g : α → Option β}
    (ha : l[n]? = some a) (hb : g a = some b) (hbefore : ∀ x ∈ l.take n, g x = none) : l.findSome? g = some b := by
  obtain ⟨hn, rfl⟩ := List.getElem?_eq_some_iff.1 ha
  refine List.findSome?_eq_some_iff.2 ⟨l.take n, l[n], l.drop (n + 1), ?_, hb, hbefore⟩
  rw [List.getElem_cons_drop, List.take_append_drop]

theorem identify_of_first {n : Nat} {f : Format} (hf : [Format.strv2, .strv3, .strv1, .iki, .lain][n]? = some f)
    (h : identifyAs f buf len count = some p)
    (hbefore : ∀ g ∈ [Format.strv2, .strv3, .strv1, .iki, .lain].take n, identifyAs g buf len count = none) :
    identify buf len count = some p :=
  findSome?_of_first hf h hbefore

theorem identify_eq_none (h : ∀ f, identifyAs f buf len count = none) : identify buf len count = none :=
  List.findSome?_eq_none_iff.2 fun f _ => h f

theorem exists_identifyAs_of_identify (h : identify buf len count = some p) :
    ∃ f, identifyAs f buf len count = some p := by
  obtain ⟨f, -, hf⟩ := List.exists_of_findSome?_eq_some h
  exact ⟨f, hf⟩

/-- The command answers a record of a format only where that format accepts the buffer. -/
theorem identifyAs_of_identify {f : Format} (h : identify buf len count = some p) (hcode : p.format = f.code) :
    identifyAs f buf len count = some p := by
  obtain ⟨g, hg⟩ := exists_identifyAs_of_identify h
  exact format_eq_of_code_eq (hcode.symm.trans (identifyAs_format hg)) ▸ hg

/-- An STR version that accepts the buffer is the first that does: those before it in the order are STR versions too. -/
theorem identify_of_strValid {f : Format} (hf : isStr f = true) (hvalid : strValid f buf len = true) :
    identify buf len count = some (strParams f buf len count) := by
  have haccepts := identifyAs_of_strValid (count := count) hf hvalid
  have hothers : ∀ g, isStr g = true → strVersion f ≠ strVersion g → identifyAs g buf len count = none :=
    fun g => identifyAs_eq_none_of_strValid hvalid
  cases f with
  | strv2 => exact identify_of_first (n := 0) rfl haccepts nofun
  | strv3 =>
    refine identify_of_first (n := 1) rfl haccepts (List.forall_mem_singleton.2 ?_)
    exact hothers .strv2 rfl (by decide)
  | strv1 =>
    refine identify_of_first (n := 2) rfl haccepts (List.forall_mem_cons.2 ⟨?_, List.forall_mem_singleton.2 ?_⟩)
    · exact hothers .strv2 rfl (by decide)
    · exact hothers .strv3 rfl (by decide)
  | iki | lain => cases hf

end

/-! ### The command (42_headers.md R179, R180) -/

section
variable {s : State}

theorem exec_hdrIdentify_of_lt (h : s.host.operands.buffer.length < s.host.operands.length) :
    exec .hdrIdentify s = .next (violated s 4) := (if_pos h).trans (violate_eq s .badOperand)

theorem exec_hdrIdentify_of_some {p : FrameParams} (h : s.host.operands.length ≤ s.host.operands.buffer.length)
    (hp : identify s.host.operands.buffer s.host.operands.length s.host.operands.mbCount = some p) :
    exec .hdrIdentify s = .next (answered s.clearErr (.params p)) := by
  change execHdrIdentify s = _
  simp only [execHdrIdentify, if_neg h.not_gt, hp]
  rfl

theorem exec_hdrIdentify_of_none (h : s.host.operands.length ≤ s.host.operands.buffer.length)
    (hnone : identify s.host.operands.buffer s.host.operands.length s.host.operands.mbCount = none) :
    exec .hdrIdentify s = .next (refusedWith s.clearErr 1#4 0 none) := by
  change execHdrIdentify s = _
  simp only [execHdrIdentify, if_neg h.not_gt, hnone, raise_other]
  rfl

/-- A record reported is the one identified: the other two ends of the command report an exception. -/
theorem identify_of_params {t : State} {p : FrameParams}
    (h : s.host.operands.length ≤ s.host.operands.buffer.length) (ht : exec .hdrIdentify s = .next t)
    (hp : t.host.reply = .params p) :
    identify s.host.operands.buffer s.host.operands.length s.host.operands.mbCount = some p := by
  cases hfound : identify s.host.operands.buffer s.host.operands.length s.host.operands.mbCount with
  | some q =>
    obtain rfl := Host.Outcome.next.inj ((exec_hdrIdentify_of_some h hfound).symm.trans ht)
    exact congrArg some (Reply.params.inj hp)
  | none =>
    obtain rfl := Host.Outcome.next.inj ((exec_hdrIdentify_of_none h hfound).symm.trans ht)
    cases hp

end

/-! ### The obligations -/

theorem isStr_and_strVersion_of_mem : ∀ x ∈ [(Format.strv1, 1#8), (.strv2, 2#8), (.strv3, 3#8)],
    isStr x.1 = true ∧ strVersion x.1 = x.2.toNat + 256 * (0#8).toNat := by decide

/-- Settles O24: the STR version that accepts the buffer is the first to do so, and a record of its format comes from no
other. -/
theorem strIdentified : Obligations.StrIdentified := by
  intro s f k hk o at' scale valid hfits
  obtain ⟨hstr, hversion⟩ := isStr_and_strVersion_of_mem (f, k) hk
  have hmagic : u16At o.buffer 2 = 0x3800 ↔ at' 2 = 0x00#8 ∧ at' 3 = 0x38#8 := u16At_eq_iff o.buffer 2 0x00#8 0x38#8
  have hvalid : strValid f o.buffer o.length = true ↔ valid := by
    rw [strValid_iff, hversion, u16At_eq_iff, hmagic, and_assoc]
    rfl
  refine ⟨fun h => exec_hdrIdentify_of_some hfits (identify_of_strValid hstr (hvalid.2 h)), ?_⟩
  intro t p ht hp hcode
  have hidentified := identify_of_params hfits ht hp
  exact hvalid.1 (strValid_of_identifyAs hstr (identifyAs_of_identify hidentified hcode))

/-- Settles O25: each validator is its list of conditions, and the first format that accepts decides the command's end. -/
theorem identifyOutcome : Obligations.IdentifyOutcome := by
  refine ⟨fun buf len count p => ?_, fun buf len count p => ?_, fun s => ?_⟩
  · simp only [identifyAs_iki_eq_some_iff, ikiFieldsValid_iff, ikiTableOf_eq_some_iff,
      exists_exists_and_eq_and, and_assoc]
    rfl
  · simp only [identifyAs_lain_eq_some_iff, lainValid_iff, and_assoc]
    rfl
  · refine ⟨exec_hdrIdentify_of_lt, fun hfits => ⟨fun n f p hf hp hbefore => ?_, fun hnone => ?_⟩⟩
    · exact exec_hdrIdentify_of_some hfits (identify_of_first hf hp hbefore)
    · exact exec_hdrIdentify_of_none hfits (identify_eq_none hnone)

end Sys2Proof.Machine
end

section
/-! PROOFS. 43_decoder.md R196, R210: the moves of DEC_STATE and the end of every frame decode (O38, O40). A decode step in
an active state moves the frame at least one step nearer its end, and a frame has at most 65 steps for each block and one
for its tail. -/

namespace Sys2Proof.Machine

section
variable {s t : State}

/-! ### DEC_STATE after a decode step (43_decoder.md R188 to R208) -/

/-- NOT_STARTED leaves the decoder in IDLE. -/
theorem notStarted_dec (s : State) : (decRaise s (excContract .notStarted)).dec = s.dec :=
  faultRecord_keeps (excContract .notStarted) s.dec rfl

/-- A fault raised again leaves the decoder in FAULT. -/
theorem faultsAgain_state (hst : s.dec.state = .fault) : (decRaise s (stickyExc s.dec)).dec.state = .fault := by
  rw [decRaise, State.raise_dec, faultRecord]
  split
  · rfl
  · exact hst

/-- An exception that faults the decoder leaves it in FAULT. -/
theorem faults_state {r : ReaderRegs} {e : Exc} (he : e.faultsDecoder = true) :
    (decRaise (s.withRd r) e).dec.state = .fault := by
  rw [decRaise_withRd s r he]
  rfl

/-- A decode step leaves DEC_STATE alone or moves it along a row of the table (43_decoder.md R210). -/
theorem Decodes.transition (h : Decodes s t) :
    t.dec.state = s.dec.state ∨
    (s.dec.state = .blockStart ∧ t.dec.state = .midBlock) ∨
    (s.dec.state = .midBlock ∧ t.dec.state =
      if t.dec.ctxBlocks = 6 * t.cfg.mbCount then if (padTail t.cfg.format).isSome then .padding else .done
      else .blockStart) ∨
    (s.dec.state = .padding ∧ t.dec.state = .done) ∨
    ((s.dec.state = .blockStart ∨ s.dec.state = .midBlock) ∧ t.dec.state = .fault ∧
      (t.err.code = 2#4 ∨ t.err.code = 3#4)) := by
  cases h with
  | notStarted _ => exact .inl (congrArg DecRegs.state (notStarted_dec s))
  | ended _ | placesCode _ _ _ _ _ => exact .inl rfl
  | faultsAgain hst => exact .inl ((faultsAgain_state hst).trans hst.symm)
  | startsBlock _ hst _ | startsPredicted _ _ hst _ _ => exact .inr (.inl ⟨hst, rfl⟩)
  | endsBlock hst _ => exact .inr (.inr (.inl ⟨hst, rfl⟩))
  | checksPadding v tail hst =>
    exact .inr (.inr (.inr (.inl ⟨hst, congrArg DecRegs.state (paddingOutcome_dec v _ tail s)⟩)))
  | faults hst _ he =>
    exact .inr (.inr (.inr (.inr ⟨hst, faults_state he, (faultsDecoder_iff _).1 he⟩)))

/-- Settles O38: only RESET, DEC_START and a decode step have an effect on the decoder's registers. -/
theorem decoderTransitions : Obligations.DecoderTransitions := by
  intro i s t hexec hmoved
  have kept (hdec : t.dec = s.dec) : False := hmoved (congrArg DecRegs.state hdec)
  cases exec_effect hexec with
  | resets => exact .inl ⟨rfl, rfl⟩
  | startsFrame fmt _ => exact .inr (.inl ⟨fmt, rfl, rfl⟩)
  | decodes hi h => exact .inr (.inr ⟨hi, h.transition.resolve_left hmoved⟩)
  | reports h | identifies h | reads _ _ _ h | encodes _ _ _ h | unpacks _ _ _ h | takesByte _ _ _ h =>
    exact (kept h.same.dec).elim
  | loads | writes | finalizes => exact (kept rfl).elim

/-! ### How far a frame is from its end (43_decoder.md R196) -/

/-- The decode steps a frame may still take before it stands in DONE or FAULT: 65 for each block to come, fewer in the
block that is being read, and one for the tail. -/
def stepsLeft (s : State) : Nat :=
  match s.dec.state with
  | .blockStart => 65 * (6 * s.cfg.mbCount - s.dec.ctxBlocks) + 1
  | .midBlock => 65 * (6 * s.cfg.mbCount - s.dec.ctxBlocks) - s.dec.vpos
  | .padding => 1
  | .idle | .done | .fault => 0

/-- The frame's decode has ended, in DONE or in FAULT. -/
def AtRest (s : State) : Prop := s.dec.state = .done ∨ s.dec.state = .fault

theorem stepsLeft_of_blockStart (hst : s.dec.state = .blockStart) :
    stepsLeft s = 65 * (6 * s.cfg.mbCount - s.dec.ctxBlocks) + 1 := by simp only [stepsLeft, hst]

theorem stepsLeft_of_midBlock (hst : s.dec.state = .midBlock) :
    stepsLeft s = 65 * (6 * s.cfg.mbCount - s.dec.ctxBlocks) - s.dec.vpos := by simp only [stepsLeft, hst]

theorem stepsLeft_of_padding (hst : s.dec.state = .padding) : stepsLeft s = 1 := by simp only [stepsLeft, hst]

theorem stepsLeft_of_atRest (h : AtRest s) : stepsLeft s = 0 := by
  rcases h with hst | hst <;> simp only [stepsLeft, hst]

/-- A sound decoder with a frame under way has a step to take. -/
theorem stepsLeft_pos (hd : DecoderOk s) (hidle : s.dec.state ≠ .idle) (hrest : ¬ AtRest s) : 0 < stepsLeft s := by
  have hvpos := hd.vpos
  cases hst : s.dec.state with
  | idle => exact absurd hst hidle
  | blockStart => rw [stepsLeft_of_blockStart hst]; omega
  | midBlock =>
    have hblocks := hd.blocks_lt (.inr hst)
    rw [stepsLeft_of_midBlock hst]
    omega
  | padding => rw [stepsLeft_of_padding hst]; omega
  | done => exact absurd (.inl hst) hrest
  | fault => exact absurd (.inr hst) hrest

/-- An end-of-block uses up what its block had left. -/
theorem stepsLeft_endOfBlock_lt (hd : DecoderOk s) (hst : s.dec.state = .midBlock) :
    stepsLeft (endOfBlock s) < 65 * (6 * s.cfg.mbCount - s.dec.ctxBlocks) - s.dec.vpos := by
  have hblocks := hd.blocks_lt (.inr hst)
  have hvpos := hd.vpos
  rcases afterBlock_state_cases s.cfg.format s.cfg.mbCount s.dec with ⟨-, hafter⟩ | ⟨-, -, hafter⟩ | ⟨-, hafter⟩
  · rw [stepsLeft_of_blockStart (s := endOfBlock s) hafter]
    change 65 * (6 * s.cfg.mbCount - (s.dec.ctxBlocks + 1)) + 1 < _
    omega
  · rw [stepsLeft_of_padding (s := endOfBlock s) hafter]
    omega
  · rw [stepsLeft_of_atRest (s := endOfBlock s) (.inl hafter)]
    omega

/-- Every decode step of a frame under way ends it or brings it nearer its end. -/
theorem Decodes.stepsLeft_lt (h : Decodes s t) (hd : DecoderOk s) (hidle : s.dec.state ≠ .idle) (hrest : ¬ AtRest s) :
    stepsLeft t < stepsLeft s := by
  have hpos := stepsLeft_pos hd hidle hrest
  cases h with
  | notStarted hst => exact absurd hst hidle
  | ended hst => exact absurd (.inl hst) hrest
  | faultsAgain hst => exact absurd (.inr hst) hrest
  | faults _ _ he => rwa [stepsLeft_of_atRest (.inr (faults_state he))]
  | @startsBlock r code hst _ =>
    rw [stepsLeft_of_blockStart hst, stepsLeft_of_midBlock (s := startBlock code (s.withRd r)) rfl]
    exact Nat.lt_succ_of_le (Nat.sub_le _ _)
  | startsPredicted _ _ hst _ _ =>
    rw [stepsLeft_of_blockStart hst, stepsLeft_of_midBlock rfl, setPredictor_eq]
    exact Nat.lt_succ_of_le (Nat.sub_le _ _)
  | @placesCode r run level hst _ hvpos =>
    have hblocks := hd.blocks_lt (.inr hst)
    have hplaced : 65 * (6 * s.cfg.mbCount - s.dec.ctxBlocks) - (s.dec.vpos + run + 1) <
        65 * (6 * s.cfg.mbCount - s.dec.ctxBlocks) - s.dec.vpos := by omega
    rw [stepsLeft_of_midBlock hst]
    exact lt_of_eq_of_lt (stepsLeft_of_midBlock (by exact hst)) hplaced
  | @endsBlock r hst _ =>
    have hread : DecoderOk (s.withRd r) := hd.congr rfl rfl
    rw [stepsLeft_of_midBlock hst]
    exact stepsLeft_endOfBlock_lt hread hst
  | checksPadding v tail _ =>
    rwa [stepsLeft_of_atRest (.inl (congrArg DecRegs.state (paddingOutcome_dec v _ tail s)))]

/-- No decode step goes back to IDLE. -/
theorem Decodes.not_idle (h : Decodes s t) (hidle : s.dec.state ≠ .idle) : t.dec.state ≠ .idle := by
  rcases h.transition with hst | ⟨-, hst⟩ | ⟨-, hst⟩ | ⟨-, hst⟩ | ⟨-, hst, -⟩ <;> rw [hst]
  · exact hidle
  · decide
  · split_ifs <;> decide
  · decide
  · decide

/-- At rest a decode step changes no state of the machine (43_decoder.md R206, R208). -/
theorem atRest_decNext (h : AtRest s) : AtRest (decNext s) := by
  rcases h with hst | hst <;> simp only [decNext, hst]
  · exact .inl hst
  · exact .inr (faultsAgain_state hst)

/-! ### A run of DEC_NEXT commands -/

theorem decSteps_succ (n : Nat) (s : State) : decSteps (n + 1) s = decSteps n (decNext s) := rfl

theorem decSteps_succ' (n : Nat) (s : State) : decSteps (n + 1) s = decNext (decSteps n s) :=
  Function.iterate_succ_apply' decNext n s

theorem atRest_decSteps (n : Nat) (h : AtRest s) : AtRest (decSteps n s) := by
  induction n generalizing s with
  | zero => exact h
  | succ n ih => exact ih (atRest_decNext h)

/-- As many steps as a frame has left bring it to rest. -/
theorem atRest_of_stepsLeft_le {n : Nat} (hd : DecoderOk s) (hidle : s.dec.state ≠ .idle) (h : stepsLeft s ≤ n) :
    AtRest (decSteps n s) := by
  induction n generalizing s with
  | zero =>
    by_contra hrest
    exact absurd (stepsLeft_pos hd hidle hrest) (by omega)
  | succ n ih =>
    by_cases hrest : AtRest s
    · exact atRest_decSteps (n + 1) hrest
    · have hstep := decodes_decNext s
      have hcloser := hstep.stepsLeft_lt hd hidle hrest
      exact ih (hstep.decoderOk hd) (hstep.not_idle hidle) (by omega)

/-- A DEC_NEXT at rest reports the end of the frame, or the exception recorded (43_decoder.md R206, R208). -/
theorem decNext_reply_of_atRest (h : AtRest s) :
    (s.dec.state = .done ∧ (decNext s).host.reply = .endMark) ∨
    (s.dec.state = .fault ∧ (decNext s).host.reply = .exception s.dec.faultCode s.dec.faultInfo none) := by
  rcases h with hst | hst
  · exact .inl ⟨hst, by simp only [decNext, hst]; rfl⟩
  · exact .inr ⟨hst, by simp only [decNext, hst]; rfl⟩

/-! ### From a frame start (43_decoder.md R186) -/

theorem startFrame_not_idle (f : Format) (p : FrameParams) (s : State) : (startFrame f p s).dec.state ≠ .idle := by
  change firstState f p.mbCount ≠ .idle
  unfold firstState
  split_ifs <;> decide

theorem stepsLeft_startFrame_le (f : Format) (p : FrameParams) (s : State) :
    stepsLeft (startFrame f p s) ≤ 6 * p.mbCount * 65 + 1 := by
  cases hst : (startFrame f p s).dec.state with
  | idle | done | fault => simp only [stepsLeft, hst]; omega
  | padding => rw [stepsLeft_of_padding hst]; omega
  | blockStart =>
    rw [stepsLeft_of_blockStart hst]
    change 65 * (6 * p.mbCount - 0) + 1 ≤ _
    omega
  | midBlock =>
    rw [stepsLeft_of_midBlock hst]
    change 65 * (6 * p.mbCount - 0) - 0 ≤ _
    omega

/-- Settles O40: the steps a frame has left run out, and it stays at rest. -/
theorem decodeTerminates : Obligations.DecodeTerminates := by
  intro f p s _ n hn
  rw [decSteps_succ']
  refine decNext_reply_of_atRest (atRest_of_stepsLeft_le (decoderOk_startFrame f p s) (startFrame_not_idle f p s) ?_)
  exact (stepsLeft_startFrame_le f p s).trans hn

end

end Sys2Proof.Machine
end

section
/-! PROOFS. 43_decoder.md R189 to R205: each token of the frame bitstream where the grammar reads it (O27 to O33). A token's
reads find their bits, so the step is the shared operation behind them, and that operation ends in a code or a fault. -/

namespace Sys2Proof.Machine

/-! ### Codes as bit fields (10_state.md R21) -/

/-- The low bits of a two's-complement value are its bits (00_scope.md R11). -/
theorem lowBits_toInt {n : Nat} (v : BitVec n) : lowBits n v.toInt = v.toNat := by
  have hmod : v.toInt % (2 ^ n : Nat) = v.toNat := by
    rw [BitVec.toInt_eq_toNat_bmod, Int.bmod_emod, ← Int.natCast_emod, Nat.mod_eq_of_lt v.isLt]
  push_cast at hmod
  rw [lowBits, hmod, Int.toNat_natCast]

/-- A code is its scale or run, then the ten bits of its DC or level. -/
theorem mdec_eq_append (q : BitVec 6) (v : BitVec 10) : mdec q.toNat v.toInt = q ++ v := by
  apply BitVec.eq_of_toNat_eq
  have hq := q.isLt
  have hv := v.isLt
  rw [mdec, lowBits_toInt, BitVec.toNat_append, ← Nat.shiftLeft_add_eq_or_of_lt hv, Nat.shiftLeft_eq, BitVec.toNat_ofNat]
  omega

section
variable {s : State} {r : ReaderRegs}

/-! ### The shared operations behind the bits read (43_decoder.md R191, R194, R201) -/

theorem startBlock_withRd (code : MdecCode) (s : State) (r : ReaderRegs) :
    startBlock code (s.withRd r) = emitted s r { s.dec with vpos := 0, state := .midBlock } code := rfl

/-- The position check: the code is emitted, or BLOCK_OVERFLOW. -/
theorem placeCode_withRd (run : Nat) (level : Int) (s : State) (r : ReaderRegs) :
    placeCode run level (s.withRd r) =
      if s.dec.vpos + run + 1 < 64 then
        emitted s r { s.dec with vpos := s.dec.vpos + run + 1 } (mdec run level)
      else faulted s r 3#4 2 := by
  rcases placeCode_cases run level (s.withRd r) with ⟨hpos, h⟩ | ⟨hpos, h⟩ <;> rw [State.withRd_dec] at hpos <;> rw [h]
  · rw [if_pos hpos]
    rfl
  · rw [if_neg (by omega)]
    exact decRaise_withRd s r rfl

/-- The range check: predictor and code are written, or DC_OUT_OF_RANGE. -/
theorem startBlockV3_withRd {diff dc : Int} (hdc : (predictor s.dec).toInt + 4 * diff = dc) (r : ReaderRegs) :
    startBlockV3 diff (s.withRd r) =
      if -512 ≤ dc ∧ dc ≤ 511 then
        emitted s r { setPredictor s.dec (BitVec.ofInt 10 dc) with vpos := 0, state := .midBlock }
          (s.cfg.qscale ++ BitVec.ofInt 10 dc)
      else faulted s r 3#4 3 := by
  have hcases := startBlockV3_cases diff (s.withRd r)
  rw [State.withRd_dec, hdc] at hcases
  rcases hcases with ⟨hrange, h⟩ | ⟨hrange, h⟩ <;> rw [h]
  · have hcode : mdec s.cfg.qscale.toNat dc = s.cfg.qscale ++ BitVec.ofInt 10 dc := by
      rw [← mdec_eq_append, toInt_ofInt_of_dcRange hrange]
    have hcodes : (setPredictor s.dec (BitVec.ofInt 10 dc)).ctxCodes = s.dec.ctxCodes := by rw [setPredictor_eq]
    rw [if_pos hrange, ← hcode, emitted, ← hcodes]
    rfl
  · rw [if_neg hrange]
    exact decRaise_withRd s r rfl

/-! ### Skips that find their bits (40_bit_cursor.md R139) -/

theorem skipThen_of_le (hs : ReaderOk s) {n : Nat} (h : n ≤ (ahead s).length) :
    ∃ r, Advanced s n r ∧ ∀ k, skipThen n s k = k (s.withRd r) := by
  obtain ⟨r, hadv, hread⟩ := readThen_of_le hs h
  exact ⟨r, hadv, fun k => hread fun _ => k⟩

theorem skipThen_next {m n : Nat} (hadv : Advanced s m r) (h : m + n ≤ (ahead s).length) :
    ∃ r', Advanced s (m + n) r' ∧ ∀ k, skipThen n (s.withRd r) k = k (s.withRd r') := by
  obtain ⟨r', hadv', hread⟩ := readThen_next hadv h
  exact ⟨r', hadv', fun k => hread fun _ => k⟩

/-! ### Block starts (43_decoder.md R189 to R194) -/

theorem blockScale_eq (s : State) :
    blockScale s =
      if s.cfg.format = .lain then if 2 ≤ s.dec.ctxBlock then s.cfg.qscaleLuma else s.cfg.qscaleChroma
      else s.cfg.qscale := by
  simp only [blockScale, isLuma, decide_eq_true_eq]

/-- Settles O27: the ten bits are there, and the block is entered with the token's value. -/
theorem dcTenStart_enters_block : Obligations.DcTenStart := by
  intro s v hst hf hs hlen
  obtain ⟨r, hadv, hread⟩ := readThen_of_le hs hlen
  have hat : atDcTen s = true := by rcases hf with hf | hf | hf <;> simp [atDcTen, hst, hf]
  refine ⟨r, hadv, ?_⟩
  rw [← blockScale_eq, ← mdec_eq_append]
  change execDc10 v s = _
  rw [execDc10, tokenAt, if_pos hat, hread, startBlock_withRd]

/-- The sign of a differential is its first bit (30_encoding.md R93). -/
theorem dcDiff_eq {size v : Nat} (hv : v < 2 ^ size) :
    dcDiff size v = if size = 0 then 0 else if 2 ^ (size - 1) ≤ v then (v : Int) else v - (2 ^ size - 1) := by
  unfold dcDiff
  rcases size with _ | n
  · rfl
  · have hsign : v.testBit n = decide (2 ^ n ≤ v) := by
      by_cases hle : 2 ^ n ≤ v
      · rw [Nat.testBit_of_two_pow_le_and_two_pow_add_one_gt hle hv, decide_eq_true hle]
      · rw [Nat.testBit_lt_two_pow (by omega), decide_eq_false hle]
    simp [hsign]

/-- An STRv3 DC token whose bits are there: the size code, then the differential bits. -/
theorem exec_dcV3_of_le {i : Instr} {luma : Bool} {size v : Nat} (hi : dcV3Fields i = some (luma, size, v))
    (hat : atDcV3 luma s = true) (hs : ReaderOk s) (hlen : (dcCode luma size).length + size ≤ (ahead s).length) :
    ∃ r, Advanced s ((dcCode luma size).length + size) r ∧
      exec i s = .next (startBlockV3 (dcDiff size v) (s.withRd r)) := by
  obtain ⟨r, hadv, hskip⟩ := skipThen_of_le hs (n := (dcCode luma size).length) (by omega)
  obtain ⟨r', hadv', hread⟩ := readThen_next hadv hlen
  rw [exec_of_dcV3Fields hi]
  rcases Nat.eq_zero_or_pos size with rfl | hpos
  · refine ⟨r, hadv, (tokenAt_next _ _ _ _).2 ⟨hat, ?_⟩⟩
    rw [hskip, if_pos rfl]
    rfl
  · refine ⟨r', hadv', (tokenAt_next _ _ _ _).2 ⟨hat, ?_⟩⟩
    rw [hskip, if_neg hpos.ne', hread]

/-- Settles O28: the token's differential meets the range check. -/
theorem dcV3Start_checks_range : Obligations.DcV3Start := by
  intro s i luma size v hi hst hf hclass hs hlen diff dc
  obtain ⟨-, hv, -⟩ := dcV3_shape hi
  have hat : atDcV3 luma s = true := by simp [atDcV3, hst, hf, hclass]
  obtain ⟨r, hadv, hexec⟩ := exec_dcV3_of_le hi hat hs hlen
  refine ⟨r, hadv, ?_⟩
  rw [hexec, startBlockV3_withRd rfl, dcDiff_eq hv]

/-! ### Code-table strings (43_decoder.md R200 to R203) -/

/-- What a code means, done behind its bits (43_decoder.md R201). -/
def afterCode (meaning : CodeMeaning) (s : State) : State :=
  match meaning with
  | .eob => endOfBlock s
  | .esc => escapeStep s
  | .ac run level => placeCode run level s

theorem codeStep_eq (len : Nat) (meaning : CodeMeaning) (s : State) :
    codeStep len meaning s = skipThen len s (afterCode meaning) := by
  cases meaning <;> rfl

/-- A string of the table inside a block whose bits are there: what it means is done behind it. -/
theorem exec_code_of_le {i : Instr} {k : Nat} {e : Entry} (hi : i.ordinal = some k)
    (hentry : (codeTable (dialectOf s.cfg.format))[k]? = some e) (hst : s.dec.state = .midBlock) (hs : ReaderOk s)
    (hlen : e.bits.length ≤ (ahead s).length) :
    ∃ r, Advanced s e.bits.length r ∧ exec i s = .next (afterCode e.meaning (s.withRd r)) := by
  obtain ⟨r, hadv, hskip⟩ := skipThen_of_le hs hlen
  refine ⟨r, hadv, ?_⟩
  rw [(exec_of_ordinal hi s).2]
  refine (tokenAt_next _ _ _ _).2 ⟨by simp [hst], ?_⟩
  simp only [hentry, codeStep_eq, hskip]

/-- Settles O29: a pair meets the position check. -/
theorem acCode : Obligations.AcCode := by
  intro s i k run level e hi hentry hmeaning hst hs hlen
  obtain ⟨r, hadv, hexec⟩ := exec_code_of_le hi hentry hst hs hlen
  rw [hmeaning] at hexec
  exact ⟨r, hadv, hexec.trans (congrArg _ (placeCode_withRd run level s r))⟩

/-- STRv2 and STRv3 have a padding tail (43_decoder.md R185). -/
theorem padTail_isSome_iff (f : Format) : (padTail f).isSome = true ↔ f = .strv2 ∨ f = .strv3 := by
  cases f <;> simp [padTail]

theorem endOfBlock_withRd (s : State) (r : ReaderRegs) :
    endOfBlock (s.withRd r) =
      emitted s r
        { s.dec with
          ctxBlocks := s.dec.ctxBlocks + 1
          ctxBlock := if s.dec.ctxBlock = 5 then 0 else s.dec.ctxBlock + 1
          ctxMb := if s.dec.ctxBlock = 5 then s.dec.ctxMb + 1 else s.dec.ctxMb
          vpos := 0
          state :=
            if s.dec.ctxBlocks + 1 = 6 * s.cfg.mbCount then
              if s.cfg.format = .strv2 ∨ s.cfg.format = .strv3 then .padding else .done
            else .blockStart } 0xFE00#16 := by
  simp only [← padTail_isSome_iff]
  rfl

/-- Settles O30: the end-of-block moves the context on. -/
theorem endOfBlock_advances : Obligations.EndOfBlock := by
  intro s i k e hi hentry hmeaning hst hs hlen
  obtain ⟨r, hadv, hexec⟩ := exec_code_of_le hi hentry hst hs hlen
  rw [hmeaning] at hexec
  exact ⟨r, hadv, hexec.trans (congrArg _ (endOfBlock_withRd s r))⟩

/-! ### Escape payloads (43_decoder.md R197, R198) -/

theorem payloadPosition_eq_escLain_iff (f : Format) : payloadPosition f = .escLain ↔ f = .lain := by
  cases f <;> decide

theorem payloadPosition_eq_escStd_iff (f : Format) : payloadPosition f = .escStd ↔ f ≠ .lain := by
  cases f <;> decide

/-- An extended Lain payload whose bits are there. -/
theorem escLainExtended_of_le (run : BitVec 6) (level : Int) (hat : atEscLain s = true) (hs : ReaderOk s)
    (hlen : 6 + 8 + 8 ≤ (ahead s).length) :
    ∃ r, Advanced s (6 + 8 + 8) r ∧ escLainExtended run level s = .next (placeCode run.toNat level (s.withRd r)) := by
  obtain ⟨r1, hadv1, hskip1⟩ := skipThen_of_le hs (n := 6) (by omega)
  obtain ⟨r2, hadv2, hskip2⟩ := skipThen_next hadv1 (n := 8) (by omega)
  obtain ⟨r3, hadv3, hskip3⟩ := skipThen_next hadv2 hlen
  exact ⟨r3, hadv3, (tokenAt_next _ _ _ _).2 ⟨hat, by rw [hskip1, hskip2, hskip3]⟩⟩

/-- A payload in its place whose bits are there: its pair is placed behind them. -/
theorem exec_payload_of_le {p : Instr} {run : Nat} {level : Int} (hp : payloadFields p = some (run, level))
    (hpos : p.position = payloadPosition s.cfg.format) (hst : s.dec.state = .midBlock) (hs : ReaderOk s)
    (hlen : (encode p).length ≤ (ahead s).length) :
    ∃ r, Advanced s (encode p).length r ∧ exec p s = .next (placeCode run level (s.withRd r)) := by
  have hlain (h : payloadPosition s.cfg.format = .escLain) : atEscLain s = true := by
    simp [atEscLain, hst, (payloadPosition_eq_escLain_iff _).1 h]
  cases p with
  | escStdPayload run level =>
    cases hp
    have hat : atEscStd s = true := by simp [atEscStd, hst, (payloadPosition_eq_escStd_iff _).1 hpos.symm]
    have hlen : 6 + 10 ≤ (ahead s).length := hlen
    obtain ⟨r1, hadv1, hskip1⟩ := skipThen_of_le hs (n := 6) (by omega)
    obtain ⟨r2, hadv2, hskip2⟩ := skipThen_next hadv1 hlen
    refine ⟨r2, hadv2, ?_⟩
    change execEscStdPayload run level s = _
    rw [execEscStdPayload, tokenAt, if_pos hat, hskip1, hskip2]
  | escLainPayloadShort run b =>
    cases hp
    have hlen : 6 + 8 ≤ (ahead s).length := hlen
    obtain ⟨r1, hadv1, hskip1⟩ := skipThen_of_le hs (n := 6) (by omega)
    obtain ⟨r2, hadv2, hskip2⟩ := skipThen_next hadv1 hlen
    refine ⟨r2, hadv2, ?_⟩
    change execEscLainPayloadShort run b s = _
    rw [execEscLainPayloadShort, tokenAt, if_pos (hlain hpos.symm), hskip1, hskip2]
  | escLainPayloadPos run x =>
    cases hp
    exact escLainExtended_of_le run _ (hlain hpos.symm) hs hlen
  | escLainPayloadNeg run x =>
    cases hp
    exact escLainExtended_of_le run _ (hlain hpos.symm) hs hlen
  | _ => nomatch hp

/-- Settles O31: the payload's pair meets the position check. -/
theorem escapePayloads : Obligations.EscapePayloads := by
  intro s p run level hp hpos hst hs hlen
  obtain ⟨r, hadv, hexec⟩ := exec_payload_of_le hp hpos hst hs hlen
  exact ⟨r, hadv, hexec.trans (congrArg _ (placeCode_withRd run level s r))⟩

/-- An escape reads the run and the level field at the cursor. -/
theorem escapeStep_fields (hs : ReaderOk s) {w : Nat} (hw : levelWidth s.cfg.format = w) {run : BitVec 6}
    {level : BitVec w} {rest : Bits} (h : ahead s = toBits 6 run.toNat ++ (toBits w level.toNat ++ rest)) :
    ∃ r, Advanced s (6 + w) r ∧ ahead (s.withRd r) = rest ∧
      escapeStep s = afterLevel s.cfg.format run.toNat level.toNat (s.withRd r) := by
  subst hw
  obtain ⟨r1, hadv1, hafter1, hread1⟩ := readThen_field hs run.isLt h
  obtain ⟨r2, hadv2, hafter2, hread2⟩ := readThen_field hadv1.sound level.isLt hafter1
  exact ⟨r2, hadv1.trans hadv2, hafter2, by rw [escapeStep_eq, hread1, hread2]; rfl⟩

/-- The standard level field is the level (43_decoder.md R197). -/
theorem afterLevel_std {f : Format} (hf : f ≠ .lain) (run : Nat) (level : BitVec 10) (s : State) :
    afterLevel f run level.toNat s = placeCode run level.toInt s := by
  rw [afterLevel, if_neg hf, sext_toNat (by decide)]

/-- A Lain level byte that is no extension byte is the level (43_decoder.md R198). -/
theorem afterLevel_short {f : Format} (hf : f = .lain) (run : Nat) {b : BitVec 8} (h0 : b ≠ 0x00#8) (h80 : b ≠ 0x80#8)
    (s : State) : afterLevel f run b.toNat s = placeCode run b.toInt s := by
  have hn0 : b.toNat ≠ 0x00 := fun hb => h0 (BitVec.eq_of_toNat_eq hb)
  have hn80 : b.toNat ≠ 0x80 := fun hb => h80 (BitVec.eq_of_toNat_eq hb)
  rw [afterLevel, if_pos hf, if_neg hn0, if_neg hn80, sext_toNat (by decide)]

/-- An extended Lain payload at the cursor: an extension byte, then the byte that decides the level. -/
theorem escapeStep_extended (hs : ReaderOk s) (hf : s.cfg.format = .lain) {run : BitVec 6} {byte x : BitVec 8}
    {rest : Bits} (h : ahead s = toBits 6 run.toNat ++ (toBits 8 byte.toNat ++ (toBits 8 x.toNat ++ rest)))
    {k : Nat → State → State} (hbyte : ∀ s, afterLevel .lain run.toNat byte.toNat s = readThen 8 s k) :
    ∃ r, Advanced s (6 + 8 + 8) r ∧ escapeStep s = k x.toNat (s.withRd r) := by
  obtain ⟨r, hadv, hafter, hstep⟩ := escapeStep_fields hs (if_pos hf) h
  obtain ⟨r', hadv', -, hread⟩ := readThen_field hadv.sound x.isLt hafter
  exact ⟨r', hadv.trans hadv', by rw [hstep, hf, hbyte, hread]; rfl⟩

/-- An escape at the cursor takes the payload that stands there. -/
theorem escapeStep_of_payload {p : Instr} {run : Nat} {level : Int} {rest : Bits} (hs : ReaderOk s)
    (hp : payloadFields p = some (run, level)) (hpos : p.position = payloadPosition s.cfg.format)
    (henc : p.encodable = true) (h : ahead s = encode p ++ rest) :
    ∃ r, Advanced s (encode p).length r ∧ escapeStep s = placeCode run level (s.withRd r) := by
  have hlain := (payloadPosition_eq_escLain_iff s.cfg.format).1
  cases p with
  | escStdPayload run level =>
    cases hp
    have hf := (payloadPosition_eq_escStd_iff _).1 hpos.symm
    rw [encode_escStdPayload, List.append_assoc] at h
    obtain ⟨r, hadv, -, hstep⟩ := escapeStep_fields hs (if_neg hf) h
    exact ⟨r, hadv, hstep.trans (afterLevel_std hf _ level _)⟩
  | escLainPayloadShort run b =>
    cases hp
    have hf := hlain hpos.symm
    obtain ⟨h0, h80⟩ := (encodable_escLainPayloadShort run b).1 henc
    rw [encode_escLainPayloadShort, List.append_assoc] at h
    obtain ⟨r, hadv, -, hstep⟩ := escapeStep_fields hs (if_pos hf) h
    exact ⟨r, hadv, hstep.trans (afterLevel_short hf _ h0 h80 _)⟩
  | escLainPayloadPos run x =>
    cases hp
    rw [encode_escLainPayloadPos, List.append_assoc, List.append_assoc] at h
    exact escapeStep_extended hs (hlain hpos.symm) (byte := 0x00) h (k := fun x => placeCode run.toNat x) fun _ => rfl
  | escLainPayloadNeg run x =>
    cases hp
    rw [encode_escLainPayloadNeg, List.append_assoc, List.append_assoc] at h
    exact escapeStep_extended hs (hlain hpos.symm) (byte := 0x80) h
      (k := fun x => placeCode run.toNat ((x : Int) - 256)) fun _ => rfl
  | _ => nomatch hp

/-- Settles O32: the payload behind the escape is the one that was decoded there, and its pair meets the position check. -/
theorem escapeCode : Obligations.EscapeCode := by
  intro s i p k run level e rest hi hentry hmeaning hst hs hlen hdec hp
  obtain ⟨hpos, henc, hbits⟩ := encodeOfDecode _ _ _ _ hdec
  obtain ⟨r, hadv, hexec⟩ := exec_code_of_le hi hentry hst hs hlen
  obtain ⟨r', hadv', hstep⟩ := escapeStep_of_payload hadv.sound hp hpos henc (hadv.ahead.trans hbits.symm)
  rw [hmeaning] at hexec
  refine ⟨r', hadv.trans hadv', hexec.trans (congrArg _ (hstep.trans ?_))⟩
  exact placeCode_withRd run level s r'

/-! ### The padding tail (43_decoder.md R205) -/

theorem padTail_length {f : Format} {tail : Bits} (h : padTail f = some tail) : tail.length = 10 := by
  cases f <;> cases h <;> rfl

theorem eosAfter_full (old : Bool) (n : Nat) : eosAfter old n n = old := by simp [eosAfter]

theorem warnAfter_valid (old : Bool) : warnAfter old .valid = old := Bool.or_false old

theorem warnAfter_mismatch (old : Bool) : warnAfter old .mismatch = true := Bool.or_true old

/-- The format's tail: DEC_PAD_STATUS is valid. -/
theorem paddingOutcome_valid (s : State) {u : Taken} (tail : Nat) (hgot : u.got = 10) :
    paddingOutcome tail u tail s =
      { s with
        rd := u.regs
        dec := { s.dec with padStatus := .valid, state := .done }
        host := { s.host with reply := .endMark, codeOut := some .endMark } } := by
  have hvalid : padOutcome 10 tail tail = .valid := if_pos ⟨rfl, rfl⟩
  simp only [paddingOutcome, hgot, hvalid, eosAfter_full, State.withDec_err, State.withRd_err, warnAfter_valid]
  rfl

/-- Any other bits, or too few: a warning and one diagnostic entry. -/
theorem paddingOutcome_mismatch (s : State) {v : Nat} {u : Taken} {tail : Nat} (h : ¬ (u.got = 10 ∧ v = tail)) :
    paddingOutcome v u tail s =
      { s with
        rd := { u.regs with eos := u.regs.eos || decide (u.got < 10) }
        dec := { s.dec with padStatus := .mismatch, state := .done }
        err := { s.err with warnPadding := true }
        host := { s.host with
          diag := s.host.diag ++ [⟨.paddingMismatch, v⟩], reply := .endMark, codeOut := some .endMark } } := by
  have hmismatch : padOutcome u.got v tail = .mismatch := if_neg h
  simp only [paddingOutcome, hmismatch, warnAfter_mismatch]
  rfl

/-- The bits taken are the tail exactly where ten of them are real and have the tail's value. -/
theorem take_eq_tail_iff {bits tail : Bits} (htail : tail.length = 10) :
    bits.take 10 = tail ↔
      min 10 bits.length = 10 ∧ ofBits (bits.take 10) * 2 ^ (10 - min 10 bits.length) = ofBits tail := by
  constructor
  · intro h
    have hlen : min 10 bits.length = 10 := by rw [← List.length_take, h, htail]
    exact ⟨hlen, by rw [hlen, h, Nat.sub_self, pow_zero, Nat.mul_one]⟩
  · rintro ⟨hlen, hvalue⟩
    rw [hlen, Nat.sub_self, pow_zero, Nat.mul_one] at hvalue
    rw [← toBits_ofBits (bits.take 10), hvalue, List.length_take, hlen, ← htail, toBits_ofBits]

/-- Settles O33: DEC_NEXT compares the bits taken with the tail; the tail's own token takes them to be the tail. -/
theorem paddingCheck : Obligations.PaddingCheck := by
  intro s tail hst hs htail k v
  have hadv := advanced_takeBits hs 10
  obtain ⟨hvalue, hgot⟩ := Prod.ext_iff.1 (peekBits_eq 10 hs)
  have hcount : (takeBits s.frame s.rd 10).got = k := hgot
  have htaken : (takeBits s.frame s.rd 10).value = v := hvalue
  have hsame := take_eq_tail_iff (bits := ahead s) (padTail_length htail)
  have hstep : decNext s = paddingOutcome v (takeBits s.frame s.rd 10) (ofBits tail) s := by
    simp only [decNext, hst, paddingStep, htail, htaken, Option.getD_some]
  refine ⟨_, hadv, fun heq => ?_, fun hne => ?_⟩
  · obtain ⟨hfull, htv⟩ := hsame.1 heq
    have hvalid := paddingOutcome_valid s (ofBits tail) (hcount.trans hfull)
    have htoken {f : Format} (hf : s.cfg.format = f) :
        padToken f tail s = .next (paddingOutcome (ofBits tail) (takeBits s.frame s.rd 10) (ofBits tail) s) :=
      (tokenAt_next _ _ _ _).2 ⟨by simp [atPadding, hst, hf], rfl⟩
    refine ⟨congrArg _ (hstep.trans (htv ▸ hvalid)), fun hf => ?_, fun hf => ?_⟩
    all_goals
      rw [hf] at htail
      cases htail
      exact (htoken hf).trans (congrArg _ hvalid)
  · have hbad : ¬ ((takeBits s.frame s.rd 10).got = 10 ∧ v = ofBits tail) := by
      rw [hcount]
      exact mt hsame.2 hne
    have heos : (takeBits s.frame s.rd 10).regs.eos = s.rd.eos := by rw [hadv.regs]
    refine congrArg _ (hstep.trans ?_)
    rw [paddingOutcome_mismatch s hbad, hcount, heos]

end

end Sys2Proof.Machine
end

section
/-! PROOFS. 43_decoder.md R186 to R190, R206 to R208, 44_encoder.md R233: the start of a frame, the DEC_NEXT that reads no
bit, the status record, and the entries of the Iki table (O26, O35, O37, O49). -/

namespace Sys2Proof.Machine

/-! ### The Iki table (43_decoder.md R190, 44_encoder.md R233) -/

/-- Every entry of a table of n blocks has two bytes of its own inside the table. -/
structure EntriesApart (n : Nat) (pos : Nat → Nat × Nat) : Prop where
  inside : ∀ k, k < n → (pos k).1 < 2 * n ∧ (pos k).2 < 2 * n
  two : ∀ k, k < n → (pos k).1 ≠ (pos k).2
  own : ∀ j k, j < n → k < n → j ≠ k → List.Disjoint [(pos j).1, (pos j).2] [(pos k).1, (pos k).2]

/-- A layout that passes the check keeps the entries apart. -/
theorem entriesApart_of_ok {n : Nat} {pos : Nat → Nat × Nat} (h : ikiEntriesOk n pos = true) : EntriesApart n pos := by
  simp only [ikiEntriesOk, Bool.and_eq_true, decide_eq_true_eq, List.all_eq_true] at h
  obtain ⟨hnodup, hlt⟩ := h
  obtain ⟨htwo, hpairs⟩ := List.nodup_flatMap.1 hnodup
  have hmem {k a : Nat} (hk : k < n) (ha : a ∈ [(pos k).1, (pos k).2]) :
      a ∈ (List.range n).flatMap fun k => [(pos k).1, (pos k).2] := List.mem_flatMap.2 ⟨k, List.mem_range.2 hk, ha⟩
  refine ⟨fun k hk => ⟨hlt _ (hmem hk (by simp)), hlt _ (hmem hk (by simp))⟩, fun k hk => ?_, fun j k hj hk hne => ?_⟩
  · simpa using htwo k (List.mem_range.2 hk)
  · have hsymm : Std.Symm (Function.onFun List.Disjoint fun k => [(pos k).1, (pos k).2]) := ⟨fun _ _ h => h.symm⟩
    exact hpairs.forall (List.mem_range.2 hj) (List.mem_range.2 hk) hne

/-- The layout in use keeps the entries apart, whatever the parameter (log 15). -/
theorem ikiEntryBytes_apart (n : Nat) : EntriesApart n (ikiEntryBytes n) := by
  by_cases hok : ikiEntriesOk n (Config.ikiEntryBytes n) = true
  · have hpos : ikiEntryBytes n = Config.ikiEntryBytes n := funext fun k => if_pos hok
    rw [hpos]
    exact entriesApart_of_ok hok
  · have hpos : ikiEntryBytes n = fun k => (2 * k, 2 * k + 1) := funext fun k => if_neg hok
    rw [hpos]
    refine ⟨fun k hk => by omega, fun k _ => by simp, fun j k _ _ hne => ?_⟩
    simp
    omega

section
variable {n k : Nat} {t : Memory} {c : MdecCode}

/-- Packing an entry leaves every byte but its two as it was. -/
theorem read_ikiPack_of_not_mem {a : Nat} (ht : t.wf = true)
    (ha : a ∉ [(ikiEntryBytes n k).1, (ikiEntryBytes n k).2]) : (ikiPack n t k c).read a = t.read a := by
  simp only [List.mem_cons, List.not_mem_nil, or_false, not_or] at ha
  obtain ⟨hhigh, hlow⟩ := ha
  rw [ikiPack, read_write_ne _ _ _ _ (write_wf _ _ _ ht) hlow, read_write_ne _ _ _ _ ht hhigh]

/-- A packed entry is read back. -/
theorem ikiEntry_ikiPack_self (ht : t.wf = true) (hsize : t.size = 2 * n) (hk : k < n) :
    ikiEntry n (ikiPack n t k c) k = c := by
  obtain ⟨hinside, htwo, -⟩ := ikiEntryBytes_apart n
  obtain ⟨hhigh, hlow⟩ := hinside k hk
  have hreadHigh : (ikiPack n t k c).read (ikiEntryBytes n k).1 = some (c.extractLsb' 8 8) := by
    rw [ikiPack, read_write_ne _ _ _ _ (write_wf _ _ _ ht) (htwo k hk), read_write_self _ _ _ ht (hsize ▸ hhigh)]
  have hreadLow : (ikiPack n t k c).read (ikiEntryBytes n k).2 = some (c.extractLsb' 0 8) :=
    read_write_self _ _ _ (write_wf _ _ _ ht) (by rwa [Memory.write_size, hsize])
  simp only [ikiEntry, hreadHigh, hreadLow, Option.getD_some, op_append_imm]

/-- The other entries read as before. -/
theorem ikiEntry_ikiPack_ne {j : Nat} (ht : t.wf = true) (hk : k < n) (hj : j < n) (hne : j ≠ k) :
    ikiEntry n (ikiPack n t k c) j = ikiEntry n t j := by
  have hown := (ikiEntryBytes_apart n).own j k hj hk hne
  simp only [ikiEntry, read_ikiPack_of_not_mem ht (hown (List.mem_cons_self ..)),
    read_ikiPack_of_not_mem ht (hown (List.mem_cons_of_mem _ (List.mem_singleton_self _)))]

end

/-- Settles O49: an entry's two bytes are its own. -/
theorem ikiTablePacks : Obligations.IkiTablePacks := fun _ _ _ _ ht hsize hk =>
  ⟨ikiEntry_ikiPack_self ht hsize hk, fun _ hj hne => ikiEntry_ikiPack_ne ht hk hj hne⟩

/-! ### DEC_START (43_decoder.md R186) -/

theorem isStr_iff (f : Format) : isStr f = true ↔ f = .strv1 ∨ f = .strv2 ∨ f = .strv3 := by
  cases f <;> decide

/-- The scales a record must hold legal are those its format uses. -/
theorem legalScales_iff (f : Format) (p : FrameParams) :
    legalScales f p = true ↔
      (f = .strv1 ∨ f = .strv2 ∨ f = .strv3 → 1 ≤ p.qscale ∧ p.qscale ≤ 63) ∧
      (f = .lain → (1 ≤ p.qscaleLuma ∧ p.qscaleLuma ≤ 63) ∧ 1 ≤ p.qscaleChroma ∧ p.qscaleChroma ≤ 63) := by
  cases f <;> simp [legalScales, isStr, legalScale_iff]

/-- The checks of the record are the conditions the claim spells out. -/
theorem acceptsFrame_iff (f : Format) (p : FrameParams) :
    acceptsFrame f p = true ↔
      p.format = f.code ∧ p.start ≤ p.stop ∧ p.stop ≤ p.buffer.length ∧
        (f = .strv1 ∨ f = .strv2 ∨ f = .strv3 → 1 ≤ p.qscale ∧ p.qscale ≤ 63) ∧
        (f = .lain → (1 ≤ p.qscaleLuma ∧ p.qscaleLuma ≤ 63) ∧ 1 ≤ p.qscaleChroma ∧ p.qscaleChroma ≤ 63) ∧
        (f = .iki → p.ikiTable.length = 12 * p.mbCount) := by
  have htable : (f != .iki || p.ikiTable.length == 12 * p.mbCount) = true ↔
      (f = .iki → p.ikiTable.length = 12 * p.mbCount) := by simp [imp_iff_not_or]
  simp only [acceptsFrame, Bool.and_eq_true, legalScales_iff, htable, legalSpan, decide_eq_true_eq, beq_iff_eq, and_assoc]

section
variable {s : State} {fmt : BitVec 3} {f : Format}

theorem exec_decStart_reserved (hf : Format.ofCode fmt = none) : exec (.decStart fmt) s = .next (violated s 4) := by
  change execDecStart fmt s = _
  simp only [execDecStart, hf, violate_eq]
  rfl

theorem exec_decStart_refused (hf : Format.ofCode fmt = some f) (h : acceptsFrame f s.host.operands.params = false) :
    exec (.decStart fmt) s = .next (violated s 4) := by
  change execDecStart fmt s = _
  simp [execDecStart, hf, h, violate_eq, contractCode]

theorem exec_decStart_accepted (hf : Format.ofCode fmt = some f) (h : acceptsFrame f s.host.operands.params = true) :
    exec (.decStart fmt) s = .next (answered (startFrame f s.host.operands.params s) .done) := by
  change execDecStart fmt s = _
  simp only [execDecStart, hf, h, if_true]
  rfl

end

/-- Settles O26: the record is refused or loaded. -/
theorem decStart : Obligations.DecStart := by
  intro s fmt p
  refine ⟨exec_decStart_reserved, fun f hf => ⟨fun hillegal => ?_, fun hlegal => ?_⟩⟩
  · exact exec_decStart_refused hf (eq_false_of_ne_true (mt (acceptsFrame_iff f p).1 hillegal))
  · rw [exec_decStart_accepted hf ((acceptsFrame_iff f p).2 hlegal)]
    simp only [startFrame, frameConfig, firstState, isStr_iff, padTail_isSome_iff, policyOf]
    rfl

/-! ### DEC_NEXT at rest and DEC_STATUS (43_decoder.md R188, R190, R206 to R208) -/

/-- NOT_STARTED is an exception that faults no decoder. -/
theorem decRaise_notStarted (s : State) : decRaise s (excContract .notStarted) = violated s 5 := by
  have hdec := notStarted_dec s
  rw [decRaise, State.raise_dec] at hdec
  rw [decRaise, State.raise, hdec]
  rfl

/-- In FAULT the recorded exception is entered again, whatever it is. -/
theorem decRaise_sticky {s : State} (hst : s.dec.state = .fault) :
    decRaise s (stickyExc s.dec) = faulted s s.rd s.dec.faultCode s.dec.faultInfo := by
  have hdec : faultRecord .decNext (stickyExc s.dec) s.dec =
      { s.dec with faultCode := s.dec.faultCode, faultInfo := s.dec.faultInfo, state := .fault } := by
    unfold faultRecord
    split
    · rfl
    · rw [← hst]
  rw [decRaise, State.raise, hdec]
  rfl

/-- Settles O35, state by state. -/
theorem decNextAtRest : Obligations.DecNextAtRest := by
  intro s
  have hexec : exec .decNext s = .next (decNext s) := rfl
  refine ⟨fun hst => ?_, fun hst => ?_, fun hst => ?_, fun hst hf => ?_⟩ <;> rw [hexec] <;> simp only [decNext, hst]
  · rw [decRaise_notStarted]
  · rfl
  · rw [decRaise_sticky hst]
  · simp only [blockStartStep, hf]
    rfl

/-- Settles O37: the record is made of the registers it names. -/
theorem decStatus : Obligations.DecStatus := fun _ => rfl

end Sys2Proof.Machine
end

section
/-! PROOFS. 44_encoder.md R231, 30_encoding.md R96, R97: the forms of an escaped Lain level (O48). -/

namespace Sys2Proof.Machine

/-- The low bits of an integer are the bits of its two's-complement word (00_scope.md R11). -/
theorem lowBits_eq_toNat (n : Nat) (v : Int) : lowBits n v = (BitVec.ofInt n v).toNat := by
  rw [lowBits, BitVec.toNat_ofInt]
  norm_cast

/-- The form of a level, behind a run, is an escape payload that holds them both (44_encoder.md R231). -/
theorem exists_lainPayload {level : Int} {bits : Bits} (h : lainLevelBits level = some bits) (run : BitVec 6) :
    ∃ p, p.position = .escLain ∧ p.encodable = true ∧ payloadFields p = some (run.toNat, level) ∧
      encode p = toBits 6 run.toNat ++ bits := by
  unfold lainLevelBits at h
  split at h
  · next hzero =>
    cases h
    exact ⟨.escLainPayloadPos run 0, rfl, rfl, by rw [hzero]; rfl, encode_escLainPayloadPos run 0⟩
  split at h
  · next hzero hshort =>
    cases h
    have hlevel : (BitVec.ofInt 8 level).toInt = level := by
      rw [BitVec.toInt_ofInt, Int.bmod_eq_of_le] <;> omega
    have hform : BitVec.ofInt 8 level ≠ 0x00#8 ∧ BitVec.ofInt 8 level ≠ 0x80#8 :=
      ⟨fun h0 => hzero (by rw [← hlevel, h0]; rfl), fun h80 => by
        have : level = -128 := by rw [← hlevel, h80]; rfl
        omega⟩
    refine ⟨.escLainPayloadShort run (BitVec.ofInt 8 level), rfl, (encodable_escLainPayloadShort run _).2 hform, ?_, ?_⟩
    · rw [payloadFields, hlevel]
    · rw [encode_escLainPayloadShort, lowBits_eq_toNat]
  split at h
  · next hpos =>
    cases h
    have hlevel : ((BitVec.ofInt 8 level).toNat : Int) = level := by
      rw [BitVec.toNat_ofInt]
      omega
    refine ⟨.escLainPayloadPos run (BitVec.ofInt 8 level), rfl, rfl, ?_, ?_⟩
    · rw [payloadFields, hlevel]
    · rw [encode_escLainPayloadPos, lowBits_eq_toNat, List.append_assoc]
  split at h
  · next hneg =>
    cases h
    have hlevel : ((BitVec.ofInt 8 (level + 256)).toNat : Int) - 256 = level := by
      rw [BitVec.toNat_ofInt]
      omega
    refine ⟨.escLainPayloadNeg run (BitVec.ofInt 8 (level + 256)), rfl, rfl, ?_, ?_⟩
    · rw [payloadFields, hlevel]
    · rw [encode_escLainPayloadNeg, lowBits_eq_toNat, List.append_assoc]
  · nomatch h

/-- Settles O48: the form is a payload's encoding, and the decoder reads it back. -/
theorem lainLevels : Obligations.LainLevels := by
  intro level
  refine ⟨?_, fun run bits rest h => ?_⟩
  · rw [lainLevelBits_eq_none_iff]
    omega
  · obtain ⟨p, hpos, henc, hfields, hbits⟩ := exists_lainPayload h run
    refine ⟨p, ?_, hfields⟩
    rw [← hbits, ← hpos]
    exact decodeOfEncode p rest henc

end Sys2Proof.Machine
end

section
/-! PROOFS. 44_encoder.md R224 to R237: the bits of an encoded block, and their decode (O41). Each AC code the encoder
wrote is one DEC_NEXT, by its table entry or by the escape and its payload. -/

namespace Sys2Proof.Machine

/-! ### The bits of a block (44_encoder.md R224, R225, R229) -/

/-- The bits of AC codes, one after another. -/
def acsBits (f : Format) (cs : List MdecCode) : Bits := cs.flatMap fun c => (acBits f (mdecTop c) (mdecBottom c)).1

theorem put_put (st : EncSt) (b b' : Bits) : (st.put b).put b' = st.put (b ++ b') := by
  simp [EncSt.put, writeBits]

/-- AC codes that raise nothing are written one after another. -/
theorem encodeAcs_written {cs : List MdecCode} {st st' : EncSt} (h : encodeAcs cs st = (st', none)) :
    st' = st.put (acsBits st.enc.format cs) ∧
      ∀ c ∈ cs, (acBits st.enc.format (mdecTop c) (mdecBottom c)).2 = none := by
  induction cs generalizing st with
  | nil =>
    cases h
    simp [acsBits, EncSt.put, writeBits]
  | cons c cs ih =>
    unfold encodeAcs at h
    split at h
    · next bits hac =>
      obtain ⟨rfl, hcs⟩ := ih h
      refine ⟨?_, List.forall_mem_cons.2 ⟨by rw [hac], hcs⟩⟩
      have hbits : acsBits st.enc.format (c :: cs) = bits ++ acsBits st.enc.format cs := by
        rw [acsBits, List.flatMap_cons, hac]
        rfl
      rw [put_put, hbits]
      rfl
    · cases h

/-- A block that raises nothing is its DC, its AC codes and its end-of-block code. -/
theorem encodeBlock_written {mb b : Nat} {blk : List MdecCode} {st st' : EncSt}
    (h : encodeBlock mb b blk st = (st', none)) :
    st' = finishBlock blk.length
        ((encodeDc mb b (blk.headD 0) st).put (acsBits st.enc.format (acCodes blk))) ∧
      ∀ c ∈ acCodes blk, (acBits st.enc.format (mdecTop c) (mdecBottom c)).2 = none := by
  unfold encodeBlock at h
  split at h
  · next hac =>
    cases h
    obtain ⟨rfl, hcodes⟩ := encodeAcs_written hac
    rw [encodeDc_format] at hcodes ⊢
    exact ⟨rfl, hcodes⟩
  · cases h

/-- A block of ten-bit DC is that field, its AC codes and its end-of-block code. -/
theorem bits_of_dcTen {mb b : Nat} {blk : List MdecCode} {st st' : EncSt} {bits : Bits}
    (hf : st.enc.format = .strv1 ∨ st.enc.format = .strv2 ∨ st.enc.format = .lain)
    (h : encodeBlock mb b blk st = (st', none)) (hbits : st'.wr.bits = st.wr.bits ++ bits) :
    bits = toBits 10 (lowBits 10 (mdecBottom (blk.headD 0))) ++
      (acsBits st.enc.format (acCodes blk) ++ eobBits (dialectOf st.enc.format)) := by
  obtain ⟨rfl, -⟩ := encodeBlock_written h
  have hdc : encodeDc mb b (blk.headD 0) st = st.put (toBits 10 (lowBits 10 (mdecBottom (blk.headD 0)))) := by
    unfold encodeDc
    rcases hf with hf | hf | hf <;> rw [hf]
  rw [hdc] at hbits
  simpa [finishBlock, EncSt.put, writeBits, List.append_assoc] using hbits.symm

/-- A well-formed answer is its start code, its AC codes and the sentinel (44_encoder.md R222). -/
theorem eq_of_wellFormedBlock {blk : List MdecCode} (h : wellFormedBlock blk = true) :
    blk = blk.headD 0 :: (acCodes blk ++ [eod]) ∧ runSum (acCodes blk) ≤ 63 := by
  simp only [wellFormedBlock, Bool.and_eq_true, decide_eq_true_eq, beq_iff_eq] at h
  obtain ⟨⟨⟨hlen, hlast⟩, -⟩, hsum⟩ := h
  refine ⟨?_, hsum⟩
  match blk, hlen with
  | c :: d :: cs, _ =>
    rw [List.getLast?_cons_cons] at hlast
    have hlast' : (d :: cs).getLast (List.cons_ne_nil d cs) = eod :=
      Option.some.inj ((List.getLast?_eq_getLast_of_ne_nil _).symm.trans hlast)
    have hsplit := List.dropLast_append_getLast (List.cons_ne_nil d cs)
    rw [hlast'] at hsplit
    exact congrArg (c :: ·) hsplit.symm

/-! ### Codes put out one by one (43_decoder.md R188) -/

/-- From s, one DEC_NEXT for each code puts it on CODE_OUT, and the last leaves t. -/
inductive Emits : State → List MdecCode → State → Prop
  | nil (s : State) : Emits s [] s
  | cons {s t : State} {c : MdecCode} {cs : List MdecCode} (hout : (decNext s).host.codeOut = some (.code c))
      (hrest : Emits (decNext s) cs t) : Emits s (c :: cs) t

section
variable {s t u : State} {cs ds : List MdecCode}

theorem Emits.append (h : Emits s cs t) (h' : Emits t ds u) : Emits s (cs ++ ds) u := by
  induction h with
  | nil => exact h'
  | cons hout _ ih => exact .cons hout (ih h')

theorem Emits.decSteps (h : Emits s cs t) : decSteps cs.length s = t := by
  induction h with
  | nil => rfl
  | cons _ _ ih => exact ih

theorem Emits.codeOut (h : Emits s cs t) (n : Nat) (hn : n < cs.length) :
    (Machine.decSteps (n + 1) s).host.codeOut = cs[n]?.map CodeOut.code := by
  induction h generalizing n with
  | nil => nomatch hn
  | cons hout _ ih =>
    cases n with
    | zero => exact hout
    | succ n => exact ih n (Nat.lt_of_succ_lt_succ hn)

end

/-! ### The decode of one code (43_decoder.md R189, R201) -/

/-- A code is made of its two fields (10_state.md R21). -/
theorem mdec_top_bottom (c : MdecCode) : mdec (mdecTop c) (mdecBottom c) = c := by
  rw [mdecTop, mdecBottom, mdec_eq_append, BitVec.extractLsb'_append_extractLsb'_eq_extractLsb' (by rfl),
    BitVec.extractLsb'_eq_self]

/-- The string that a dialect gives to a meaning it binds is that of an entry with that meaning. -/
theorem exists_entry_bits {d : Dialect} {m : CodeMeaning} (h : ∃ e ∈ codeTable d, e.meaning = m) :
    ∃ e ∈ codeTable d, e.meaning = m ∧
      (((codeTable d).find? fun e => e.meaning == m).map Entry.bits).getD [] = e.bits := by
  have hfound : ((codeTable d).find? fun e => e.meaning == m).isSome = true := by
    simpa only [List.find?_isSome, beq_iff_eq] using h
  obtain ⟨e, he⟩ := Option.isSome_iff_exists.1 hfound
  have hm : (e.meaning == m) = true := List.find?_some (p := fun e : Entry => e.meaning == m) he
  exact ⟨e, List.mem_of_find?_eq_some he, beq_iff_eq.1 hm, by rw [he]; rfl⟩

/-- A pair the table binds is written as its entry's string (44_encoder.md R229). -/
theorem acBits_of_some {f : Format} {run : Nat} {level : Int} {e : Entry}
    (h : encodeLookup (dialectOf f) run level = some e) : acBits f run level = (e.bits, none) := by
  rw [acBits]
  simp only [h]

/-- Every other pair of the standard dialect is escaped (44_encoder.md R230). -/
theorem acBits_std_of_none {f : Format} {run : Nat} {level : Int} (hf : f ≠ .lain)
    (h : encodeLookup (dialectOf f) run level = none) :
    acBits f run level = (escBits (dialectOf f) ++ toBits 6 run ++ toBits 10 (lowBits 10 level), none) := by
  rw [acBits]
  simp only [h, if_neg hf]

/-- Every other pair of Lain is escaped too, where its level has a form (44_encoder.md R231). -/
theorem acBits_lain_of_none {run : Nat} {level : Int} (h : encodeLookup (dialectOf .lain) run level = none)
    (hnone : (acBits .lain run level).2 = none) :
    ∃ l, lainLevelBits level = some l ∧
      acBits .lain run level = (escBits (dialectOf .lain) ++ toBits 6 run ++ l, none) := by
  rw [acBits] at hnone ⊢
  simp only [h, if_true] at hnone ⊢
  cases hlevel : lainLevelBits level with
  | some l => exact ⟨l, rfl, rfl⟩
  | none => simp [hlevel] at hnone

/-- An AC code is written as a table entry that means it, or as the escape and a payload that holds it. -/
theorem acBits_cases {f : Format} {c : MdecCode} (h : (acBits f (mdecTop c) (mdecBottom c)).2 = none) :
    (∃ e ∈ codeTable (dialectOf f), e.meaning = .ac (mdecTop c) (mdecBottom c) ∧
      (acBits f (mdecTop c) (mdecBottom c)).1 = e.bits) ∨
    ∃ p : Instr, p.position = payloadPosition f ∧ p.encodable = true ∧
      payloadFields p = some (mdecTop c, mdecBottom c) ∧
      (acBits f (mdecTop c) (mdecBottom c)).1 = escBits (dialectOf f) ++ encode p := by
  cases hlook : encodeLookup (dialectOf f) (mdecTop c) (mdecBottom c) with
  | some e =>
    obtain ⟨hmem, hmeaning⟩ := encodeLookup_some _ _ _ _ hlook
    exact .inl ⟨e, hmem, hmeaning, congrArg Prod.fst (acBits_of_some hlook)⟩
  | none =>
    right
    by_cases hf : f = .lain
    · subst hf
      obtain ⟨l, hlevel, hac⟩ := acBits_lain_of_none hlook h
      obtain ⟨p, hpos, henc, hfields, hbits⟩ := exists_lainPayload hlevel (c.extractLsb' 10 6)
      refine ⟨p, hpos, henc, hfields, ?_⟩
      rw [hac, hbits, List.append_assoc]
      rfl
    · refine ⟨.escStdPayload (c.extractLsb' 10 6) (c.extractLsb' 0 10),
        ((payloadPosition_eq_escStd_iff f).2 hf).symm, rfl, rfl, ?_⟩
      rw [acBits_std_of_none hf hlook, encode_escStdPayload, ← lowBits_toInt (c.extractLsb' 0 10), List.append_assoc]
      rfl

/-- What a step reports and counts is nothing to the reader. -/
theorem readerOk_emitted {s : State} {r : ReaderRegs} (h : ReaderOk (s.withRd r)) (d : DecRegs) (c : MdecCode) :
    ReaderOk (emitted s r d c) := (readerOk_iff (emitted s r d c)).2 ((readerOk_iff (s.withRd r)).1 h)

section
variable {s : State} {rest : Bits}

theorem Advanced.ahead_of_append {bits : Bits} {r : ReaderRegs} (h : Advanced s bits.length r)
    (hahead : Machine.ahead s = bits ++ rest) : Machine.ahead (s.withRd r) = rest :=
  h.ahead.trans (by rw [hahead, List.drop_left])

/-- The string of an entry at the cursor: what it means is done behind it. -/
theorem decNext_of_entry (hs : ReaderOk s) (hst : s.dec.state = .midBlock) {e : Entry}
    (hmem : e ∈ codeTable (dialectOf s.cfg.format)) (hahead : ahead s = e.bits ++ rest) :
    ∃ r, Advanced s e.bits.length r ∧ decNext s = afterCode e.meaning (s.withRd r) := by
  obtain ⟨r, hadv, -, hskip⟩ := skipThen_bits hs hahead
  have hwindow := prefix_windowOf (s := s) ⟨rest, hahead.symm⟩ (codeTable_length_le hmem)
  exact ⟨r, hadv, by simp only [decNext, hst, acStep_of_entry hs hmem hwindow, codeStep_eq, hskip]⟩

/-- The bits of an AC code at the cursor: its pair is placed behind them. -/
theorem decNext_of_acBits (hs : ReaderOk s) (hst : s.dec.state = .midBlock) {c : MdecCode}
    (h : (acBits s.cfg.format (mdecTop c) (mdecBottom c)).2 = none)
    (hahead : ahead s = (acBits s.cfg.format (mdecTop c) (mdecBottom c)).1 ++ rest) :
    ∃ r, Advanced s (acBits s.cfg.format (mdecTop c) (mdecBottom c)).1.length r ∧
      decNext s = placeCode (mdecTop c) (mdecBottom c) (s.withRd r) := by
  obtain ⟨e, hmem, hmeaning, hbits⟩ | ⟨p, hpos, henc, hfields, hbits⟩ := acBits_cases h <;> rw [hbits] at hahead ⊢
  · obtain ⟨r, hadv, hstep⟩ := decNext_of_entry hs hst hmem hahead
    exact ⟨r, hadv, hstep.trans (by rw [hmeaning]; rfl)⟩
  · obtain ⟨e, hmem, hmeaning, hesc⟩ := exists_entry_bits (exists_esc_and_eob (dialectOf s.cfg.format)).1
    rw [escBits, hesc, List.append_assoc] at hahead
    obtain ⟨r, hadv, hstep⟩ := decNext_of_entry hs hst hmem hahead
    obtain ⟨r', hadv', hstep'⟩ := escapeStep_of_payload hadv.sound hfields hpos henc (hadv.ahead_of_append hahead)
    refine ⟨r', ?_, ?_⟩
    · rw [escBits, hesc, List.length_append]
      exact hadv.trans hadv'
    · rw [hstep, hmeaning]
      exact hstep'

/-! ### The decode of a block (44_encoder.md R237) -/

/-- t is inside the block that s is in, with `rest` still to be read. -/
structure GoesOn (s t : State) (rest : Bits) : Prop where
  state : t.dec.state = .midBlock
  reader : ReaderOk t
  ahead : Machine.ahead t = rest
  cfg : t.cfg = s.cfg
  blocks : t.dec.ctxBlocks = s.dec.ctxBlocks

/-- The AC codes of a block come out as they were written. -/
theorem emits_acCodes {cs : List MdecCode} (hs : ReaderOk s) (hst : s.dec.state = .midBlock)
    (hnone : ∀ c ∈ cs, (acBits s.cfg.format (mdecTop c) (mdecBottom c)).2 = none)
    (hroom : s.dec.vpos + runSum cs ≤ 63) (hahead : ahead s = acsBits s.cfg.format cs ++ rest) :
    ∃ t, Emits s cs t ∧ GoesOn s t rest := by
  induction cs generalizing s with
  | nil => exact ⟨s, .nil s, hst, hs, hahead, rfl, rfl⟩
  | cons c cs ih =>
    obtain ⟨hc, hcs⟩ := List.forall_mem_cons.1 hnone
    rw [acsBits, List.flatMap_cons, List.append_assoc] at hahead
    obtain ⟨r, hadv, hstep⟩ := decNext_of_acBits hs hst hc hahead
    rw [runSum] at hroom
    rw [placeCode_withRd, if_pos (by omega), mdec_top_bottom] at hstep
    obtain ⟨t, hemits, hstate, hreader, hrest, hcfg, hblocks⟩ :=
      ih (s := emitted s r { s.dec with vpos := s.dec.vpos + mdecTop c + 1 } c) (readerOk_emitted hadv.sound _ _) hst
        hcs (by simp only [emitted]; omega) (hadv.ahead_of_append hahead)
    exact ⟨t, .cons (by rw [hstep]; rfl) (hstep ▸ hemits), hstate, hreader, hrest, hcfg, hblocks⟩

/-- The start of a block comes out as it was written, at the frame's scale (43_decoder.md R189). -/
theorem emits_dcTen {c : MdecCode} (hs : ReaderOk s) (hst : s.dec.state = .blockStart)
    (hf : s.cfg.format = .strv1 ∨ s.cfg.format = .strv2 ∨ s.cfg.format = .lain) (hc : mdecTop c = (blockScale s).toNat)
    (hahead : ahead s = toBits 10 (lowBits 10 (mdecBottom c)) ++ rest) :
    ∃ t, Emits s [c] t ∧ GoesOn s t rest ∧ t.dec.vpos = 0 := by
  rw [mdecBottom, lowBits_toInt] at hahead
  obtain ⟨r, hadv, hrest, hread⟩ := readThen_field hs (c.extractLsb' 0 10).isLt hahead
  have hstep : decNext s = emitted s r { s.dec with vpos := 0, state := .midBlock } c := by
    have hstart : decNext s = dcTenStart s := by
      rcases hf with hf | hf | hf <;> simp only [decNext, hst, blockStartStep, hf]
    rw [hstart, dcTenStart, hread, startBlock_withRd, sext_toNat (by decide), ← hc]
    exact congrArg _ (mdec_top_bottom c)
  refine ⟨_, .cons (by rw [hstep]; rfl) (.nil _), ?_, ?_⟩ <;> rw [hstep]
  · exact ⟨rfl, readerOk_emitted hadv.sound _ _, hrest, rfl, rfl⟩
  · rfl

/-- The end of a block comes out as the sentinel, and the block is counted (43_decoder.md R203). -/
theorem emits_eod (hs : ReaderOk s) (hst : s.dec.state = .midBlock)
    (hahead : ahead s = eobBits (dialectOf s.cfg.format) ++ rest) :
    ∃ t, Emits s [eod] t ∧ ahead t = rest ∧ t.dec.ctxBlocks = s.dec.ctxBlocks + 1 := by
  obtain ⟨e, hmem, hmeaning, heob⟩ := exists_entry_bits (exists_esc_and_eob (dialectOf s.cfg.format)).2
  rw [eobBits, heob] at hahead
  obtain ⟨r, hadv, hstep⟩ := decNext_of_entry hs hst hmem hahead
  rw [hmeaning] at hstep
  have hend : decNext s = endOfBlock (s.withRd r) := hstep
  refine ⟨_, .cons (by rw [hend]; rfl) (.nil _), ?_, ?_⟩ <;> rw [hend]
  · exact hadv.ahead_of_append hahead
  · rfl

end

/-- Settles O41: the start code, the AC codes and the end-of-block, each read where the one before it ended. -/
theorem blockRoundTrip : Obligations.BlockRoundTrip := by
  intro s mb b blk st st' bits rest hf hfmt hgood hencode hbits hst hs hahead
  obtain ⟨hblock, htop, -⟩ := hgood
  obtain ⟨hblk, hroom⟩ := eq_of_wellFormedBlock hblock
  obtain ⟨-, hcodes⟩ := encodeBlock_written hencode
  have hwritten := bits_of_dcTen (hfmt ▸ hf) hencode hbits
  rw [hfmt] at hwritten hcodes
  rw [hwritten, List.append_assoc, List.append_assoc] at hahead
  obtain ⟨t1, hemits1, hon1, hvpos⟩ := emits_dcTen hs hst hf htop hahead
  obtain ⟨hst1, hs1, hahead1, hcfg1, hblocks1⟩ := hon1
  rw [← hcfg1] at hcodes hahead1
  obtain ⟨t2, hemits2, hst2, hs2, hahead2, hcfg2, hblocks2⟩ := emits_acCodes hs1 hst1 hcodes (by omega) hahead1
  rw [← hcfg2] at hahead2
  obtain ⟨t3, hemits3, hahead3, hblocks3⟩ := emits_eod hs2 hst2 hahead2
  have hemits : Emits s blk t3 := hblk ▸ hemits1.append (hemits2.append hemits3)
  refine ⟨hemits.codeOut, ?_, ?_⟩ <;> rw [hemits.decSteps]
  · exact hahead3
  · rw [hblocks3, hblocks2, hblocks1]

end Sys2Proof.Machine
end

section
/-! PROOFS. 44_encoder.md R221 to R236: ENC_FRAME on good answers (O44). What a block leaves of the encoder's registers
is said once; the frame's registers follow block by block. -/

namespace Sys2Proof.Machine

/-! ### One block (44_encoder.md R224) -/

section
variable (mb b : Nat) (code : MdecCode) (st : EncSt)

/-- The DC of a block only appends bits to the writer. -/
theorem encodeDc_writes : ∃ bits, (encodeDc mb b code st).wr = writeBits st.wr bits := by
  unfold encodeDc
  split
  case h_5 => exact ⟨[], by simp [encodeDcIki, writeBits]⟩
  all_goals exact ⟨_, rfl⟩

/-- The DC of a block leaves the counts alone. -/
theorem encodeDc_counts :
    (encodeDc mb b code st).enc.mbCount = st.enc.mbCount ∧ (encodeDc mb b code st).enc.codes = st.enc.codes ∧
      (encodeDc mb b code st).enc.blocks = st.enc.blocks := by
  unfold encodeDc
  split
  case h_4 =>
    unfold encodeDcV3 setPrevRounded
    dsimp only
    split <;> exact ⟨rfl, rfl, rfl⟩
  all_goals exact ⟨rfl, rfl, rfl⟩

theorem encodeDc_iki (hf : st.enc.format = .iki) : encodeDc mb b code st = encodeDcIki mb b code st := by
  unfold encodeDc
  rw [hf]

end

/-- A good answer is written whole and raises nothing. -/
theorem encodeBlock_of_good {f : Format} {q : Nat} {blk : List MdecCode} {st : EncSt} (hf : st.enc.format = f)
    (h : goodAnswer f q blk) (mb b : Nat) :
    encodeBlock mb b blk st =
      (finishBlock blk.length ((encodeDc mb b (blk.headD 0) st).put (acsBits f (acCodes blk))), none) := by
  obtain ⟨-, -, hlevels⟩ := h
  have hnone : (encodeBlock mb b blk st).2 = none := by
    rw [encodeBlock_exception]
    refine encodeAcs_completes fun c hc hlain => ?_
    rw [encodeDc_format, hf] at hlain
    exact fun ⟨hlook, hrange⟩ => hrange (hlevels hlain c hc hlook)
  have hres : encodeBlock mb b blk st = ((encodeBlock mb b blk st).1, none) := Prod.ext rfl hnone
  rw [hres, (encodeBlock_written hres).1, hf]

/-- A good answer appends bits that end in the end-of-block string (44_encoder.md R232). -/
theorem encodeBlock_appends {f : Format} {q : Nat} {blk : List MdecCode} {st : EncSt} (hf : st.enc.format = f)
    (h : goodAnswer f q blk) (mb b : Nat) :
    ∃ st' bits, encodeBlock mb b blk st = (st', none) ∧ st'.wr.bits = st.wr.bits ++ bits ∧
      eobBits (dialectOf f) <:+ bits := by
  obtain ⟨dc, hdc⟩ := encodeDc_writes mb b (blk.headD 0) st
  refine ⟨_, dc ++ acsBits f (acCodes blk) ++ eobBits (dialectOf f), encodeBlock_of_good hf h mb b, ?_,
    List.suffix_append _ _⟩
  simp only [finishBlock, EncSt.put, hdc, writeBits, encodeDc_format, hf, List.append_assoc]

/-! ### The blocks of a frame (44_encoder.md R221) -/

/-- The registers of an encode with its first k blocks written. -/
structure Encoded (f : Format) (o : Operands) (k : Nat) (st : EncSt) : Prop where
  work : AtWork f o st
  mbCount : st.enc.mbCount = o.mbCount
  blocks : st.enc.blocks = k
  codes : st.enc.codes = ((List.range k).map fun j => (answerOf f o (j / 6) (j % 6)).length).sum
  policy : st.wr.policy = policyOf f
  align : st.wr.align = padAlign f
  table : f = .iki → st.enc.table.wf = true ∧ st.enc.table.size = 2 * (6 * o.mbCount) ∧
    ∀ j, j < k → ikiEntry (6 * o.mbCount) st.enc.table j = (answerOf f o (j / 6) (j % 6)).headD 0

section
variable {f : Format} {o : Operands} {st : EncSt} {k : Nat}

theorem encoded_blocksStart (f : Format) (o : Operands) : Encoded f o 0 (blocksStart f o) where
  work := SameScales.refl _
  mbCount := rfl
  blocks := rfl
  codes := rfl
  policy := rfl
  align := rfl
  table := by
    rintro rfl
    refine ⟨Memory.ofBytes_wf _, ?_, fun j hj => nomatch hj⟩
    simp [blocksStart, encStart, frameJob]
    omega

/-- The table with the next block's start code in it (44_encoder.md R233). -/
theorem Encoded.table_next (h : Encoded f o k st) (hf : f = .iki) (hk : k < 6 * o.mbCount) {code : MdecCode}
    (hcode : code = (answerOf f o (k / 6) (k % 6)).headD 0) :
    (ikiPack (6 * o.mbCount) st.enc.table k code).wf = true ∧
      (ikiPack (6 * o.mbCount) st.enc.table k code).size = 2 * (6 * o.mbCount) ∧
      ∀ j, j < k + 1 → ikiEntry (6 * o.mbCount) (ikiPack (6 * o.mbCount) st.enc.table k code) j =
        (answerOf f o (j / 6) (j % 6)).headD 0 := by
  obtain ⟨hwf, hsize, hentries⟩ := h.table hf
  refine ⟨ikiPack_wf _ _ _ _ hwf, (ikiPack_size _ _ _ _).trans hsize, fun j hj => ?_⟩
  obtain hlt | rfl := Nat.lt_succ_iff_lt_or_eq.1 hj
  · rw [ikiEntry_ikiPack_ne hwf hk (by omega) (by omega), hentries j hlt]
  · rw [ikiEntry_ikiPack_self hwf hsize hk, hcode]

/-- One more block. -/
theorem Encoded.next (h : Encoded f o k st) (hk : k < 6 * o.mbCount)
    (hgood : goodAnswer f (askedScale f o (k / 6) (k % 6)) (answerOf f o (k / 6) (k % 6))) :
    Encoded f o (k + 1) (encodeBlock (k / 6) (k % 6) (answerOf f o (k / 6) (k % 6)) st).1 := by
  have hwork := h.work.encodeBlock (k / 6) (k % 6) (answerOf f o (k / 6) (k % 6))
  rw [encodeBlock_of_good h.work.format hgood] at hwork ⊢
  obtain ⟨bits, hwr⟩ := encodeDc_writes (k / 6) (k % 6) ((answerOf f o (k / 6) (k % 6)).headD 0) st
  obtain ⟨hmb, hcodes, hblocks⟩ := encodeDc_counts (k / 6) (k % 6) ((answerOf f o (k / 6) (k % 6)).headD 0) st
  refine ⟨hwork, hmb.trans h.mbCount, congrArg (· + 1) (hblocks.trans h.blocks), ?_, ?_, ?_, fun hf => ?_⟩
  · rw [List.range_succ, List.map_append, List.sum_append, ← h.codes, ← hcodes]
    rfl
  · exact (congrArg WriterRegs.policy hwr).trans h.policy
  · exact (congrArg WriterRegs.align hwr).trans h.align
  · have htable : (encodeDc (k / 6) (k % 6) ((answerOf f o (k / 6) (k % 6)).headD 0) st).enc.table =
        ikiPack (6 * o.mbCount) st.enc.table k ((answerOf f o (k / 6) (k % 6)).headD 0) := by
      rw [encodeDc_iki _ _ _ _ (h.work.format.trans hf), encodeDcIki, h.mbCount, Nat.div_add_mod]
    exact htable ▸ h.table_next hf hk rfl

/-- The registers of a frame's end are those of all its blocks. -/
theorem encoded_blocksEncoded
    (hgood : ∀ mb b, mb < o.mbCount → b < 6 → goodAnswer f (askedScale f o mb b) (answerOf f o mb b)) :
    Encoded f o (6 * o.mbCount) (blocksEncoded f o) := by
  have hfold : ∀ n, n ≤ 6 * o.mbCount → Encoded f o n (((List.range n).map fun k => (k / 6, k % 6)).foldl
      (fun st p => (encodeBlock p.1 p.2 (answerOf f o p.1 p.2) st).1) (blocksStart f o)) := fun n hn => by
    induction n with
    | zero => exact encoded_blocksStart f o
    | succ n ih =>
      rw [List.range_succ, List.map_append, List.foldl_append]
      exact (ih (Nat.le_of_succ_le hn)).next hn (hgood _ _ (by omega) (Nat.mod_lt _ (by decide)))
  have hall := hfold _ le_rfl
  rw [← blockOrder_eq] at hall
  exact hall

/-! ### The end of the frame (44_encoder.md R221, R232 to R235) -/

theorem assembles_iff : assembles (frameJob f o) (blocksEncoded f o).enc = true ↔ tableFits f o := by
  refine ⟨tableFits_of_assembles, fun h => ?_⟩
  by_cases hf : f = .iki
  · subst hf
    simp only [assembles, frameJob, bne_self_eq_false, Bool.false_or]
    exact decide_eq_true (h rfl)
  · simp [assembles, frameJob, hf]

/-- The end of a frame that can be assembled: its registers and its bytes. -/
theorem finishFrame_blocksEncoded (h : tableFits f o) :
    finishFrame (frameJob f o) (blocksEncoded f o) =
      (⟨(blocksEncoded f o).enc, frameWriter f o⟩, .frame (frameBytes f o)) :=
  Prod.ext rfl (if_pos (assembles_iff.2 h))

theorem exec_encFrame_good {s : State} {fmt : BitVec 3} (hf : Format.ofCode fmt = some f)
    (hlegal : legalEncode f s.host.operands)
    (hgood : ∀ mb b, mb < s.host.operands.mbCount → b < 6 →
      goodAnswer f (askedScale f s.host.operands mb b) (answerOf f s.host.operands mb b))
    (hfits : tableFits f s.host.operands) :
    exec (.encFrame fmt) s = .next (answered
      { s with
        err := { s.err with code := 0, info := 0 }
        enc := (blocksEncoded f s.host.operands).enc
        wr := frameWriter f s.host.operands
        out := Memory.ofBytes (frameBytes f s.host.operands) }
      (.frame (frameBytes f s.host.operands) (frameBytes f s.host.operands).length)) := by
  have hframe := (encodeFrame_good hlegal hgood (encSt s)).trans (finishFrame_blocksEncoded hfits)
  change execEncFrame fmt s = _
  simp only [execEncFrame, hf, (jobLegal_iff _ _).2 hlegal, Bool.not_true, Bool.false_eq_true, if_false, hframe]
  rfl

/-- The frame of an STR format: four header fields, then the finalized bits (44_encoder.md R234). -/
theorem frameBytes_str (hf : isStr f = true) (h : Encoded f o (6 * o.mbCount) (blocksEncoded f o))
    (hlegal : legalEncode f o) :
    frameBytes f o =
      u16le (Config.strCountField (blocksEncoded f o).enc.codes).toNat ++ u16le 0x3800 ++ u16le o.qscale ++
        u16le (strVersion f) ++ finalBytes (frameWriter f o).bits .le16 (padAlign f) := by
  have hscale : (blocksEncoded f o).enc.qFrame.toNat = o.qscale := by
    have hq := h.work.qFrame
    simp only [encStart, frameJob, hf, if_true] at hq
    rw [hq]
    cases f with
    | strv1 | strv2 | strv3 => exact scaleReg_toNat hlegal
    | iki | lain => cases hf
  have hpolicy : (frameWriter f o).policy = .le16 := h.policy.trans (if_neg (by rintro rfl; cases hf))
  have halign : (frameWriter f o).align = padAlign f := h.align
  have hbuild : ∀ e body, buildFrame (frameJob f o) e body = buildStr (frameJob f o) e body := fun e body => by
    cases f with
    | strv1 | strv2 | strv3 => rfl
    | iki | lain => cases hf
  rw [frameBytes, hbuild, buildStr, hscale, hpolicy, halign]
  rfl

end

/-- Settles O44: good answers leave the registers of all blocks, and the frame's end is assembled from them. -/
theorem encFrameCompletes : Obligations.EncFrameCompletes := by
  intro s fmt f hfmt o answer hlegal hgood e w bytes
  have hall : Encoded f o (6 * o.mbCount) (blocksEncoded f o) := encoded_blocksEncoded hgood
  refine ⟨exec_encFrame_good hfmt hlegal hgood,
    fun mb b hmb hb st hst => encodeBlock_appends hst (hgood mb b hmb hb) mb b, hall.blocks,
    hall.codes, ?_, hall.align, ?_, fun hf => frameBytes_str ((isStr_iff f).2 hf) hall hlegal,
    fun hf mb b hmb hb => ?_⟩
  · exact hall.work.mbQ
  · exact hall.policy
  · obtain ⟨-, -, hentries⟩ := hall.table hf
    have hk := hentries (6 * mb + b) (by omega)
    have hmb : (6 * mb + b) / 6 = mb := by omega
    have hb : (6 * mb + b) % 6 = b := by omega
    rwa [hmb, hb] at hk

end Sys2Proof.Machine
end

section
/-! PROOFS. 46_lzss.md R265 to R276: what the compressor writes, the decompressor reads back, whatever stands behind it.
The validator of an Iki frame needs it for the table the encoder packed (44_encoder.md R233, R235). -/

namespace Sys2Proof.Machine

/-! ### Flag bytes (46_lzss.md R265) -/

/-- Bit k of a string, counted from its last bit, is the bit of its value. -/
theorem testBit_ofBits {l : Bits} {k : Nat} (hk : k < l.length) :
    (ofBits l).testBit k = l.getD (l.length - 1 - k) false := by
  have hbit := toBits_getD (ofBits l) (n := l.length) (k := l.length - 1 - k) (by omega)
  have hpos : l.length - 1 - (l.length - 1 - k) = k := by omega
  rw [toBits_ofBits, hpos] at hbit
  exact hbit.symm

/-- The flag byte governs each token as it was written. -/
theorem flagBit_flagByte (o : FlagOrder) {tokens : List Bool} (hlen : tokens.length ≤ 8) {i : Nat}
    (hi : i < tokens.length) : flagBit o (flagByte o tokens) i = tokens.getD i false := by
  cases o with
  | msbFirst =>
    have hbits : (tokens ++ List.replicate (8 - tokens.length) false).length = 8 := by simp; omega
    have hpos : 8 - 1 - (7 - i) = i := by omega
    simp only [flagBit, flagByte, BitVec.getLsbD_ofNat]
    rw [testBit_ofBits (by omega), hbits, hpos, List.getD_append _ _ _ _ hi, decide_eq_true (by omega), Bool.true_and]
  | lsbFirst =>
    have hpos : tokens.length - 1 - (tokens.length - 1 - i) = i := by omega
    simp only [flagBit, flagByte, BitVec.getLsbD_ofNat]
    rw [testBit_ofBits (by rwa [List.length_reverse]), List.length_reverse, List.getD_reverse _ (by omega), hpos,
      decide_eq_true (by omega), Bool.true_and]

/-! ### Matches (46_lzss.md R271, R272) -/

/-- `len` bytes at `pos` repeat those `dist` bytes before, inside the data (46_lzss.md R271). -/
structure Repeats (data : List Byte) (pos len dist : Nat) : Prop where
  distPos : 1 ≤ dist
  distLe : dist ≤ pos
  inside : pos + len ≤ data.length
  same : ∀ i, i < len → data[pos + i]? = data[pos + i - dist]?

theorem matchLength_spec (data : List Byte) (pos d fuel : Nat) :
    matchLength data pos d fuel ≤ fuel ∧
      ∀ i, i < matchLength data pos d fuel → data[pos + i]? = data[pos + i - d]? := by
  induction fuel generalizing pos with
  | zero => exact ⟨le_rfl, fun i hi => nomatch hi⟩
  | succ fuel ih =>
    unfold matchLength
    split
    · next hsame =>
      obtain ⟨hle, hrest⟩ := ih (pos + 1)
      refine ⟨by omega, fun i hi => ?_⟩
      cases i with
      | zero => exact hsame
      | succ i =>
        have hi := hrest i (by omega)
        rwa [Nat.add_right_comm pos 1 i] at hi
    · exact ⟨Nat.zero_le _, fun i hi => nomatch hi⟩

/-- The best match is none, or the match at one of the distances. -/
theorem bestMatchTo_cases (data : List Byte) (pos limit d : Nat) :
    bestMatchTo data pos limit d = (0, 0) ∨
      ∃ dist, 1 ≤ dist ∧ dist ≤ d ∧ bestMatchTo data pos limit d = (matchLength data pos dist limit, dist) := by
  induction d with
  | zero => exact .inl rfl
  | succ d ih =>
    unfold bestMatchTo
    dsimp only
    split
    · exact .inr ⟨d + 1, Nat.succ_pos d, le_rfl, rfl⟩
    · rcases ih with h | ⟨dist, h1, hd, h⟩
      · exact .inl h
      · exact .inr ⟨dist, h1, Nat.le_succ_of_le hd, h⟩

/-- A match that is taken fits a back-reference token (46_lzss.md R266, R272). -/
theorem bestMatch_repeats {data : List Byte} {pos : Nat} (h : 0 < (bestMatch data pos).1) :
    Repeats data pos (bestMatch data pos).1 (bestMatch data pos).2 ∧ (bestMatch data pos).1 ≤ 258 ∧
      (bestMatch data pos).2 ≤ 32768 := by
  unfold bestMatch at h ⊢
  split at h
  · next hpos =>
    rw [if_pos hpos]
    rcases bestMatchTo_cases data pos (min 258 (data.length - pos)) (min pos 32768) with heq | ⟨dist, h1, hd, heq⟩
    · rw [heq] at h
      nomatch h
    · obtain ⟨hlen, hsame⟩ := matchLength_spec data pos dist (min 258 (data.length - pos))
      rw [heq]
      exact ⟨⟨h1, by simp only; omega, by simp only; omega, hsame⟩, by simp only; omega, by simp only; omega⟩
  · nomatch h

/-- A copy rebuilds what repeats (46_lzss.md R268). -/
theorem copyBack_take {data : List Byte} {pos len dist : Nat} (h : Repeats data pos len dist) :
    copyBack len dist (data.take pos) = data.take (pos + len) := by
  induction len generalizing pos with
  | zero => rfl
  | succ n ih =>
    obtain ⟨h1, hd, hin, hsame⟩ := h
    have hlen : (data.take pos).length = pos := List.length_take_of_le (by omega)
    have hpos : pos < data.length := by omega
    have hbyte : (data.take pos).getD ((data.take pos).length - dist) 0#8 = data[pos] := by
      have hzero := hsame 0 (by omega)
      rw [Nat.add_zero, List.getElem?_eq_getElem hpos] at hzero
      rw [hlen, List.getD_eq_getElem?_getD, List.getElem?_take_of_lt (by omega), ← hzero]
      rfl
    have hnext : Repeats data (pos + 1) n dist := ⟨h1, by omega, by omega, fun i hi => by
      have := hsame (i + 1) (by omega)
      rwa [show pos + (i + 1) = pos + 1 + i by omega] at this⟩
    rw [copyBack, hbyte, List.take_append_getElem hpos, ih hnext, show pos + 1 + n = pos + (n + 1) by omega]

/-! ### One token (46_lzss.md R268) -/

section
variable {o : FlagOrder} {data rest : List Byte} {n pos : Nat} {w : LzWork}

/-- An output of the expected size ends the loop, whatever is left of the source. -/
theorem lzLoop_done {dsize : Nat} (src : List Byte) (left : Nat) (h : dsize ≤ w.dst.length) :
    lzLoop o dsize src left w = (w, none) := by
  cases src with
  | nil => rw [lzLoop, if_pos h]
  | cons b src => cases left <;> rw [lzLoop, if_pos h]

/-- The decompressor's work with the first bytes of the data put out and `used` more bytes read. -/
structure Unpacked (data : List Byte) (w : LzWork) (used pos : Nat) (w' : LzWork) : Prop where
  dst : w'.dst = data.take pos
  sp : w'.sp = w.sp + used
  flags : w'.flags = w.flags

theorem lzLoop_literal (hpos : pos < data.length) (hdst : w.dst = data.take pos)
    (hflag : flagBit o w.flags (8 - (n + 1)) = false) :
    ∃ w', Unpacked data w 1 (pos + 1) w' ∧
      lzLoop o data.length (data.getD pos 0#8 :: rest) (n + 1) w = lzLoop o data.length rest n w' := by
  have hshort : ¬ data.length ≤ w.dst.length := by rw [hdst, List.length_take]; omega
  refine ⟨lzPutLiteral (data.getD pos 0#8) { w with flagI := 8 - (n + 1) }, ⟨?_, rfl, rfl⟩, ?_⟩
  · simp only [lzPutLiteral, hdst, List.getD_eq_getElem _ _ hpos, List.take_append_getElem hpos]
  · rw [lzLoop, if_neg hshort]
    simp only [hflag, Bool.false_eq_true, if_false]

theorem lzLoop_backref {len dist : Nat} (h : Repeats data pos len dist) (hlen : 3 ≤ len) (hlen' : len ≤ 258)
    (hdist : dist ≤ 32768) (hdst : w.dst = data.take pos) (hflag : flagBit o w.flags (8 - (n + 1)) = true) :
    ∃ w', Unpacked data w (backrefBytes len dist).length (pos + len) w' ∧
      lzLoop o data.length (backrefBytes len dist ++ rest) (n + 1) w = lzLoop o data.length rest n w' := by
  have h1 := h.distPos
  have hd := h.distLe
  have hin := h.inside
  have hwlen : w.dst.length = pos := by rw [hdst, List.length_take]; omega
  have hshort : ¬ data.length ≤ w.dst.length := by omega
  have hcopy : ∀ w1 : LzWork, w1.dst = data.take pos →
      lzPutCopy data.length len dist w1 = ({ w1 with dst := data.take (pos + len) }, none) := fun w1 hw1 => by
    have hlen1 : w1.dst.length = pos := by rw [hw1, ← hdst, hwlen]
    rw [lzPutCopy, if_neg (by omega), if_neg (by omega), hw1, copyBack_take h]
  have hlenByte : (BitVec.ofNat 8 (len - 3)).toNat + 3 = len := by
    rw [BitVec.toNat_ofNat]
    omega
  unfold backrefBytes
  dsimp only
  split
  · next hnear =>
    have hoff : (BitVec.ofNat 8 (dist - 1)).toNat = dist - 1 := by
      rw [BitVec.toNat_ofNat]
      omega
    refine ⟨⟨w.sp + 2, data.take (pos + len), w.flags, 8 - (n + 1)⟩, ⟨rfl, rfl, rfl⟩, ?_⟩
    rw [List.cons_append, List.cons_append, lzLoop, if_neg hshort]
    simp only [hflag, if_true, hoff, if_pos hnear, hlenByte, Nat.sub_add_cancel h1, List.nil_append]
    rw [hcopy ⟨w.sp + 2, w.dst, w.flags, 8 - (n + 1)⟩ hdst]
  · next hfar =>
    have hhigh : (BitVec.ofNat 8 (0x80 + (dist - 1) / 256)).toNat = 0x80 + (dist - 1) / 256 := by
      rw [BitVec.toNat_ofNat]
      omega
    have hlow : (BitVec.ofNat 8 ((dist - 1) % 256)).toNat = (dist - 1) % 256 := by
      rw [BitVec.toNat_ofNat]
      omega
    have hoff : (0x80 + (dist - 1) / 256 - 0x80) * 256 + (dist - 1) % 256 + 1 = dist := by omega
    refine ⟨⟨w.sp + 3, data.take (pos + len), w.flags, 8 - (n + 1)⟩, ⟨rfl, rfl, rfl⟩, ?_⟩
    rw [List.cons_append, List.cons_append, lzLoop, if_neg hshort]
    simp only [hflag, if_true, hhigh, hlow, if_neg (show ¬ 0x80 + (dist - 1) / 256 < 0x80 by omega), List.cons_append,
      hlenByte, hoff, List.nil_append]
    rw [hcopy ⟨w.sp + 3, w.dst, w.flags, 8 - (n + 1)⟩ hdst]

/-! ### Groups (46_lzss.md R272) -/

/-- A group goes forward, stays inside the data and is at most n tokens. -/
theorem lzGroup_bounds (data : List Byte) (n pos : Nat) (hpos : pos ≤ data.length) :
    (lzGroup data n pos).1.length ≤ n ∧ pos ≤ (lzGroup data n pos).2.2 ∧ (lzGroup data n pos).2.2 ≤ data.length ∧
      (pos < data.length → 0 < n → pos < (lzGroup data n pos).2.2) := by
  induction n generalizing pos with
  | zero => exact ⟨le_rfl, le_rfl, hpos, fun _ h => nomatch h⟩
  | succ n ih =>
    unfold lzGroup
    split
    · exact ⟨Nat.zero_le _, le_rfl, hpos, fun h _ => by omega⟩
    · dsimp only
      split
      · next hlen =>
        obtain ⟨⟨-, -, hin, -⟩, -, -⟩ := bestMatch_repeats (data := data) (pos := pos) (by omega)
        obtain ⟨h1, h2, h3, -⟩ := ih (pos + (bestMatch data pos).1) hin
        exact ⟨Nat.succ_le_succ h1, by dsimp only; omega, h3, fun _ _ => by dsimp only; omega⟩
      · obtain ⟨h1, h2, h3, -⟩ := ih (pos + 1) (by omega)
        exact ⟨Nat.succ_le_succ h1, by dsimp only; omega, h3, fun _ _ => by dsimp only; omega⟩

/-- The tokens of a group are read back; the group then has no token left, or the data no byte. -/
theorem lzLoop_group (hn : n ≤ 8) (hpos : pos ≤ data.length) (hdst : w.dst = data.take pos)
    (hflags : ∀ i, i < (lzGroup data n pos).1.length →
      flagBit o w.flags (8 - n + i) = (lzGroup data n pos).1.getD i false) :
    ∃ left w', Unpacked data w (lzGroup data n pos).2.1.length (lzGroup data n pos).2.2 w' ∧
      lzLoop o data.length ((lzGroup data n pos).2.1 ++ rest) n w = lzLoop o data.length rest left w' ∧
      (left = 0 ∨ data.length ≤ (lzGroup data n pos).2.2) := by
  induction n generalizing pos w with
  | zero => exact ⟨0, w, ⟨hdst, rfl, rfl⟩, rfl, .inl rfl⟩
  | succ n ih =>
    unfold lzGroup at hflags ⊢
    split at hflags
    · next hend =>
      rw [if_pos hend]
      exact ⟨n + 1, w, ⟨hdst, rfl, rfl⟩, rfl, .inr hend⟩
    next hmore =>
    rw [if_neg hmore]
    dsimp only at hflags ⊢
    split at hflags
    · next hlen =>
      rw [if_pos hlen]
      obtain ⟨hrep, hlen', hdist⟩ := bestMatch_repeats (data := data) (pos := pos) (by omega)
      obtain ⟨w1, ⟨hdst1, hsp1, hflags1⟩, hstep⟩ := lzLoop_backref (o := o) (n := n) (w := w)
        (rest := (lzGroup data n (pos + (bestMatch data pos).1)).2.1 ++ rest) hrep hlen hlen' hdist hdst
        (hflags 0 (Nat.succ_pos _))
      obtain ⟨left, w', ⟨hdst', hsp', hflags'⟩, hrest, hleft⟩ := ih (w := w1) (Nat.le_of_succ_le hn) hrep.inside hdst1
        fun i hi => by
          have := hflags (i + 1) (Nat.succ_lt_succ hi)
          rwa [show 8 - (n + 1) + (i + 1) = 8 - n + i by omega, ← hflags1] at this
      refine ⟨left, w', ⟨hdst', ?_, hflags'.trans hflags1⟩, ?_, hleft⟩
      · rw [hsp', hsp1, List.length_append, Nat.add_assoc]
      · rw [List.append_assoc, hstep, hrest]
    · next hlen =>
      rw [if_neg hlen]
      obtain ⟨w1, ⟨hdst1, hsp1, hflags1⟩, hstep⟩ := lzLoop_literal (o := o) (n := n) (w := w)
        (rest := (lzGroup data n (pos + 1)).2.1 ++ rest) (Nat.lt_of_not_le hmore) hdst (hflags 0 (Nat.succ_pos _))
      obtain ⟨left, w', ⟨hdst', hsp', hflags'⟩, hrest, hleft⟩ := ih (pos := pos + 1) (w := w1) (Nat.le_of_succ_le hn)
        (Nat.lt_of_not_le hmore) hdst1 fun i hi => by
          have := hflags (i + 1) (Nat.succ_lt_succ hi)
          rwa [show 8 - (n + 1) + (i + 1) = 8 - n + i by omega, ← hflags1] at this
      refine ⟨left, w', ⟨hdst', ?_, hflags'.trans hflags1⟩, ?_, hleft⟩
      · rw [hsp', hsp1, List.length_cons]
        omega
      · rw [List.cons_append, hstep, hrest]

/-- The groups from a position on are read back: the output is the data. -/
theorem lzLoop_groups (fuel : Nat) {left : Nat} (hpos : pos ≤ data.length) (hfuel : data.length ≤ pos + fuel)
    (hdst : w.dst = data.take pos) (hleft : left = 0 ∨ data.length ≤ pos) :
    ∃ w', w'.dst = data ∧ w'.sp = w.sp + (lzGroups o data fuel pos).length ∧
      lzLoop o data.length (lzGroups o data fuel pos ++ rest) left w = (w', none) := by
  induction fuel generalizing pos left w with
  | zero =>
    have hall : w.dst = data := hdst.trans (List.take_of_length_le hfuel)
    exact ⟨w, hall, rfl, lzLoop_done _ _ (by rw [hall])⟩
  | succ fuel ih =>
    unfold lzGroups
    split
    · next hend =>
      have hall : w.dst = data := hdst.trans (List.take_of_length_le hend)
      exact ⟨w, hall, rfl, lzLoop_done _ _ (by rw [hall])⟩
    · next hmore =>
      obtain rfl : left = 0 := hleft.resolve_right hmore
      have hshort : ¬ data.length ≤ w.dst.length := by rw [hdst, List.length_take]; omega
      obtain ⟨htokens, -, hin, hgoes⟩ := lzGroup_bounds data 8 pos hpos
      have hforward := hgoes (Nat.lt_of_not_le hmore) (by decide)
      obtain ⟨left, w1, ⟨hdst1, hsp1, -⟩, hstep, hleft1⟩ := lzLoop_group (o := o) (n := 8)
        (w := { w with sp := w.sp + 1, flags := flagByte o (lzGroup data 8 pos).1 })
        (rest := lzGroups o data fuel (lzGroup data 8 pos).2.2 ++ rest) le_rfl hpos hdst
        fun i hi => by rw [Nat.sub_self, Nat.zero_add]; exact flagBit_flagByte o htokens hi
      obtain ⟨w', hdst', hsp', hrest⟩ := ih hin (by omega) hdst1 hleft1
      refine ⟨w', hdst', ?_, ?_⟩
      · rw [hsp', hsp1]
        simp only [List.length_cons, List.length_append]
        omega
      · dsimp only
        rw [List.cons_append, lzLoop, if_neg hshort]
        simp only [List.append_assoc]
        rw [hstep, hrest]

end

/-- Compressed data is decompressed to the data, using every byte of it and none behind it (46_lzss.md R276). -/
theorem lzDecomp_lzComp (o : FlagOrder) (data rest : List Byte) :
    ∃ w, w.dst = data ∧ w.sp = (lzComp o data).length ∧ lzDecomp o (lzComp o data ++ rest) data.length = (w, none) := by
  obtain ⟨w, hdst, hsp, hloop⟩ := lzLoop_groups (o := o) (rest := rest) (pos := 0) (w := ⟨0, [], 0, 0⟩) (left := 0)
    data.length (Nat.zero_le data.length) (Nat.le_add_left _ _) rfl (.inl rfl)
  exact ⟨w, hdst, hsp.trans (Nat.zero_add _), hloop⟩

end Sys2Proof.Machine
end

section
/-! PROOFS. 44_encoder.md R233 to R237, 42_headers.md R167 to R178: a frame that ENC_FRAME answers passes its own
validator (O45). Fields placed apart are read back, and the table an Iki header holds is the one packed. -/

namespace Sys2Proof.Machine

/-! ### Header fields (42_headers.md R171, R176) -/

/-- Byte i of a field that holds v, its most significant first, gives v back. -/
theorem fieldBig_eq {buf : List Byte} (v : Nat) {a n : Nat}
    (h : ∀ i, i < n → byteAt buf (a + i) = v / 256 ^ (n - 1 - i) % 256) : fieldBig buf a n = v % 256 ^ n := by
  induction n generalizing a with
  | zero => simp [fieldBig, Nat.mod_one]
  | succ n ih =>
    have hfirst := h 0 (Nat.succ_pos n)
    have hrest := ih (a := a + 1) fun i hi => by
      have hi' := h (i + 1) (Nat.succ_lt_succ hi)
      rwa [show a + (i + 1) = a + 1 + i by omega, show n + 1 - 1 - (i + 1) = n - 1 - i by omega] at hi'
    rw [fieldBig, hrest, Nat.pow_succ, Nat.mod_mul]
    simp only [Nat.add_zero, Nat.add_sub_cancel, Nat.sub_zero] at hfirst
    rw [hfirst]
    ring

/-- Byte i of a field that holds v, its least significant first, gives v back. -/
theorem fieldLittle_eq {buf : List Byte} (v : Nat) {a n : Nat}
    (h : ∀ i, i < n → byteAt buf (a + i) = v / 256 ^ i % 256) : fieldLittle buf a n = v % 256 ^ n := by
  induction n generalizing a v with
  | zero => simp [fieldLittle, Nat.mod_one]
  | succ n ih =>
    have hfirst := h 0 (Nat.succ_pos n)
    have hrest := ih (a := a + 1) (v / 256) fun i hi => by
      have hi' := h (i + 1) (Nat.succ_lt_succ hi)
      rwa [show a + (i + 1) = a + 1 + i by omega, Nat.pow_succ', ← Nat.div_div_eq_div_mul] at hi'
    rw [fieldLittle, hrest, Nat.pow_succ', Nat.mod_mul]
    simp only [Nat.add_zero, Nat.pow_zero, Nat.div_one] at hfirst
    rw [hfirst]

/-- A field whose bytes stand in a buffer is read with its value. -/
theorem readField_eq {buf : List Byte} {p : FieldPos} {v : Nat} (hv : v < 256 ^ p.width)
    (h : ∀ i, i < p.width → buf.getD (p.off + i) 0#8 = fieldByte p v i) : readField buf p = v := by
  have hbyte : ∀ i, i < p.width →
      byteAt buf (p.off + i) = v / 256 ^ (if p.bigEndian then p.width - 1 - i else i) % 256 := fun i hi => by
    rw [byteAt, h i hi, fieldByte, BitVec.toNat_ofNat]
    exact Nat.mod_mod_of_dvd _ (dvd_refl _)
  unfold readField
  cases hend : p.bigEndian with
  | true =>
    simp only [hend, if_true] at hbyte ⊢
    rw [fieldBig_eq v hbyte, Nat.mod_eq_of_lt hv]
  | false =>
    simp only [hend, Bool.false_eq_true, if_false] at hbyte ⊢
    rw [fieldLittle_eq v hbyte, Nat.mod_eq_of_lt hv]

/-- Fields that are apart are each covered by their own bytes. -/
theorem fieldCover_of_mem {limit : Nat} {fields : List (FieldPos × Nat)} {p : FieldPos} {v i : Nat}
    (hok : fieldsOk limit (fields.map Prod.fst) = true) (hmem : (p, v) ∈ fields) (hi : i < p.width) :
    fieldCover fields (p.off + i) = some (fieldByte p v i) ∧ p.off + p.width ≤ limit := by
  induction fields with
  | nil => nomatch hmem
  | cons q fields ih =>
    simp only [List.map_cons, fieldsOk, Bool.and_eq_true, decide_eq_true_eq, List.all_eq_true] at hok
    obtain ⟨⟨⟨-, hle⟩, hapart⟩, hrest⟩ := hok
    rcases List.mem_cons.1 hmem with rfl | hmem
    · refine ⟨?_, hle⟩
      rw [fieldCover, if_pos ⟨by omega, by omega⟩, Nat.add_sub_cancel_left]
    · have hdis := hapart p (List.mem_map.2 ⟨(p, v), hmem, rfl⟩)
      simp only [fieldsDisjoint, Bool.or_eq_true, decide_eq_true_eq] at hdis
      obtain ⟨hcover, hlimit⟩ := ih hrest hmem
      exact ⟨by rw [fieldCover, if_neg (by omega), hcover], hlimit⟩

/-- No field covers a byte at or beyond their limit. -/
theorem fieldCover_beyond {limit a : Nat} {fields : List (FieldPos × Nat)}
    (hok : fieldsOk limit (fields.map Prod.fst) = true) (ha : limit ≤ a) : fieldCover fields a = none := by
  induction fields with
  | nil => rfl
  | cons q fields ih =>
    simp only [List.map_cons, fieldsOk, Bool.and_eq_true, decide_eq_true_eq, List.all_eq_true] at hok
    obtain ⟨⟨⟨-, hle⟩, -⟩, hrest⟩ := hok
    rw [fieldCover, if_neg (by omega), ih hrest]

/-- A header made byte by byte, in front of the body. -/
theorem getD_header {n a : Nat} (g : Nat → Byte) (body : List Byte) (ha : a < n) :
    ((List.range n).map g ++ body).getD a 0#8 = g a := by
  rw [List.getD_append _ _ _ _ (by simpa using ha), List.getD_eq_getElem _ _ (by simpa using ha)]
  simp

theorem drop_header {n : Nat} (g : Nat → Byte) (body : List Byte) : ((List.range n).map g ++ body).drop n = body :=
  List.drop_left' (by simp)

/-- A header that covers its fields holds their values. -/
theorem readField_header {limit n : Nat} {fields : List (FieldPos × Nat)} {g : Nat → Byte} (body : List Byte)
    (hok : fieldsOk limit (fields.map Prod.fst) = true) (hn : limit ≤ n)
    (hg : ∀ a b, fieldCover fields a = some b → g a = b) {p : FieldPos} {v : Nat} (hmem : (p, v) ∈ fields)
    (hv : v < 256 ^ p.width) : readField ((List.range n).map g ++ body) p = v :=
  readField_eq hv fun i hi => by
    obtain ⟨hcover, hlimit⟩ := fieldCover_of_mem hok hmem hi
    rw [getD_header g body (by omega), hg _ _ hcover]

/-! ### STR frames (42_headers.md R167 to R170, 44_encoder.md R234) -/

/-- A half-word of a buffer is read with its value. -/
theorem u16At_u16le (pre post : List Byte) {v : Nat} (hv : v < 65536) :
    u16At (pre ++ (u16le v ++ post)) pre.length = v := by
  have hlow : (pre ++ (u16le v ++ post)).getD pre.length 0#8 = BitVec.ofNat 8 (v % 256) := by
    rw [List.getD_append_right _ _ _ _ le_rfl, Nat.sub_self]
    rfl
  have hhigh : (pre ++ (u16le v ++ post)).getD (pre.length + 1) 0#8 = BitVec.ofNat 8 (v / 256 % 256) := by
    rw [List.getD_append_right _ _ _ _ (Nat.le_add_right _ 1), Nat.add_sub_cancel_left]
    rfl
  simp only [u16At, byteAt, hlow, hhigh, BitVec.toNat_ofNat]
  omega

/-- An STR frame passes the validator of its version, at its scale. -/
theorem identifyAs_buildStr {j : EncJob} {e : EncRegs} (hf : isStr j.fmt = true)
    (hq : 1 ≤ e.qFrame.toNat ∧ e.qFrame.toNat ≤ 63) (body : List Byte) (count : Nat) :
    identifyAs j.fmt (buildStr j e body) (buildStr j e body).length count =
        some (strParams j.fmt (buildStr j e body) (buildStr j e body).length count) ∧
      u16At (buildStr j e body) 4 = e.qFrame.toNat ∧ (buildStr j e body).drop 8 = body := by
  have hversion : strVersion j.fmt < 65536 := by cases j.fmt <;> decide
  have hframe : buildStr j e body = u16le (j.count e.codes).toNat ++ (u16le 0x3800 ++ (u16le e.qFrame.toNat ++
      (u16le (strVersion j.fmt) ++ body))) := by simp only [buildStr, List.append_assoc]
  have hmagic : u16At (buildStr j e body) 2 = 0x3800 := by
    rw [hframe]
    exact u16At_u16le (u16le _) _ (by omega)
  have hscale : u16At (buildStr j e body) 4 = e.qFrame.toNat := by
    rw [hframe, ← List.append_assoc]
    exact u16At_u16le (u16le _ ++ u16le _) _ (by omega)
  have hversionField : u16At (buildStr j e body) 6 = strVersion j.fmt := by
    rw [hframe, ← List.append_assoc, ← List.append_assoc]
    exact u16At_u16le ((u16le _ ++ u16le _) ++ u16le _) _ hversion
  have hlen : 8 ≤ (buildStr j e body).length := by simp [buildStr, u16le]
  exact ⟨identifyAs_of_strValid hf ((strValid_iff _ _ _).2 ⟨hlen, hmagic, hscale ▸ hq, hversionField⟩), hscale, rfl⟩

/-! ### Lain frames (42_headers.md R176 to R178, 44_encoder.md R235) -/

/-- A six-bit scale fits any field. -/
theorem scale_lt_field (q : BitVec 6) {w : Nat} (hw : 1 ≤ w) : q.toNat < 256 ^ w :=
  calc q.toNat < 256 := by omega
    _ ≤ 256 ^ w := Nat.le_self_pow (by omega) 256

theorem fieldsOk_width {limit : Nat} {ps : List FieldPos} (h : fieldsOk limit ps = true) : ∀ p ∈ ps, 1 ≤ p.width := by
  induction ps with
  | nil => nofun
  | cons p ps ih =>
    simp only [fieldsOk, Bool.and_eq_true, decide_eq_true_eq] at h
    obtain ⟨⟨⟨hw, -⟩, -⟩, hrest⟩ := h
    exact List.forall_mem_cons.2 ⟨hw, ih hrest⟩

/-- The fields of a Lain header (44_encoder.md R235). -/
def lainFields (e : EncRegs) : List (FieldPos × Nat) :=
  [(lainLayout.qLuma, e.qLuma.toNat), (lainLayout.qChroma, e.qChroma.toNat), (lainLayout.magicOrFrame, 0x3800),
    (lainLayout.version, 0)]

theorem buildLain_eq (e : EncRegs) (body : List Byte) :
    buildLain e body = (List.range lainLayout.bsOffset).map
      (fun a => (fieldCover (lainFields e) a).getD (Config.headerFiller e.codes a)) ++ body := rfl

/-- A Lain frame passes the validator, at its scales. -/
theorem identifyAs_buildLain {e : EncRegs} (hl : 1 ≤ e.qLuma.toNat ∧ e.qLuma.toNat ≤ 63)
    (hc : 1 ≤ e.qChroma.toNat ∧ e.qChroma.toNat ≤ 63) (body : List Byte) (count : Nat) :
    identifyAs .lain (buildLain e body) (buildLain e body).length count =
        some (lainParams (buildLain e body) (buildLain e body).length count) ∧
      readField (buildLain e body) lainLayout.qLuma = e.qLuma.toNat ∧
      readField (buildLain e body) lainLayout.qChroma = e.qChroma.toNat ∧
      (buildLain e body).drop lainLayout.bsOffset = body := by
  have hlayout := lainLayout_ok
  simp only [lainLayoutOk, Bool.and_eq_true, decide_eq_true_eq] at hlayout
  obtain ⟨hok, hmagicWidth⟩ := hlayout
  have hwidth := fieldsOk_width hok
  have hread (p : FieldPos) (v : Nat) (hmem : (p, v) ∈ lainFields e) (hv : v < 256 ^ p.width) :
      readField (buildLain e body) p = v := by
    rw [buildLain_eq]
    exact readField_header body hok le_rfl (fun a b hab => by rw [hab]; rfl) hmem hv
  have hluma := hread lainLayout.qLuma _ (by simp [lainFields]) (scale_lt_field e.qLuma (hwidth _ (by simp)))
  have hchroma := hread lainLayout.qChroma _ (by simp [lainFields]) (scale_lt_field e.qChroma (hwidth _ (by simp)))
  have hmagic := hread lainLayout.magicOrFrame 0x3800 (by simp [lainFields])
    (lt_of_lt_of_le (by norm_num) (Nat.pow_le_pow_right (by norm_num) hmagicWidth))
  have hversion := hread lainLayout.version 0 (by simp [lainFields]) (by positivity)
  have hlen : lainLayout.bsOffset ≤ (buildLain e body).length := by simp [buildLain_eq]
  refine ⟨identifyAs_lain_eq_some_iff.2 ⟨(lainValid_iff _ _).2 ⟨hlen, ?_, ?_, hversion, .inl hmagic⟩, rfl⟩,
    hluma, hchroma, drop_header _ _⟩
  · rwa [hluma]
  · rwa [hchroma]

/-! ### Iki frames (42_headers.md R171 to R175, 44_encoder.md R233, R235) -/

/-- The packed table is the compressed one, with at most one byte behind it that makes its size even. -/
theorem ikiPackedTable_eq (o : FlagOrder) (table : Memory) :
    (∃ extra, ikiPackedTable o table = lzComp o table.toBytes ++ extra) ∧ (ikiPackedTable o table).length % 2 = 0 := by
  unfold ikiPackedTable
  dsimp only
  split
  · exact ⟨⟨_, rfl⟩, by rw [List.length_append, List.length_singleton]; omega⟩
  · exact ⟨⟨[], (List.append_nil _).symm⟩, by omega⟩

/-- The fields of an Iki header that holds the packed table z (44_encoder.md R235). -/
def ikiFields (j : EncJob) (z : List Byte) : List (FieldPos × Nat) :=
  [(ikiLayout.magic, ikiLayout.magicValue), (ikiLayout.width, j.width), (ikiLayout.height, j.height),
    (ikiLayout.csize, z.length)]

/-- A byte of an Iki header that holds the packed table z. -/
def ikiHeaderByte (j : EncJob) (e : EncRegs) (z : List Byte) (a : Nat) : Byte :=
  match fieldCover (ikiFields j z) a with
  | some b => b
  | none =>
    if ikiLayout.lzOffset ≤ a ∧ a < ikiLayout.lzOffset + z.length then z.getD (a - ikiLayout.lzOffset) 0#8
    else Config.headerFiller e.codes a

section
variable {j : EncJob} {e : EncRegs} {z : List Byte}

theorem buildIki_eq (hz : ikiPackedTable j.order e.table = z) (body : List Byte) :
    buildIki j e body = (List.range (ikiBsOffset z.length)).map (ikiHeaderByte j e z) ++ body := by
  subst hz
  rfl

/-- The bitstream starts behind the table (log 13). -/
theorem lzOffset_le_ikiBsOffset (n : Nat) : ikiLayout.lzOffset + n ≤ ikiBsOffset n := le_max_right _ _

theorem ikiFields_ok (j : EncJob) (z : List Byte) :
    fieldsOk ikiLayout.lzOffset ((ikiFields j z).map Prod.fst) = true ∧
      ikiLayout.magicValue < 256 ^ ikiLayout.magic.width := by
  have hlayout := ikiLayout_ok
  simp only [ikiLayoutOk, Bool.and_eq_true, decide_eq_true_eq] at hlayout
  exact hlayout

/-- An Iki header holds its fields. -/
theorem readField_buildIki (hz : ikiPackedTable j.order e.table = z) (body : List Byte) {p : FieldPos} {v : Nat}
    (hmem : (p, v) ∈ ikiFields j z) (hv : v < 256 ^ p.width) : readField (buildIki j e body) p = v := by
  have hstart := lzOffset_le_ikiBsOffset z.length
  rw [buildIki_eq hz]
  exact readField_header body (ikiFields_ok j z).1 (by omega) (fun a b hab => by rw [ikiHeaderByte, hab]) hmem hv

/-- An Iki header holds its packed table. -/
theorem buildIki_table (hz : ikiPackedTable j.order e.table = z) (body : List Byte) :
    ((buildIki j e body).drop ikiLayout.lzOffset).take z.length = z := by
  have hstart := lzOffset_le_ikiBsOffset z.length
  rw [buildIki_eq hz]
  refine List.ext_getElem (by simp; omega) fun i h1 h2 => ?_
  have hnone := fieldCover_beyond (ikiFields_ok j z).1 (Nat.le_add_right ikiLayout.lzOffset i)
  have hbyte : ikiHeaderByte j e z (ikiLayout.lzOffset + i) = z[i] := by
    rw [ikiHeaderByte, hnone]
    dsimp only
    rw [if_pos (by omega), Nat.add_sub_cancel_left, List.getD_eq_getElem _ _ h2]
  rw [List.getElem_take, List.getElem_drop, List.getElem_append_left (by simp; omega), List.getElem_map,
    List.getElem_range, hbyte]

/-- The table of an Iki header decompresses to the one packed (42_headers.md R174). -/
theorem ikiTableOf_eq {buf : List Byte} (hz : ikiPackedTable Config.lzssFlagOrder e.table = z)
    (hdata : (buf.drop ikiLayout.lzOffset).take (readField buf ikiLayout.csize) = z)
    (hsize : e.table.size = 12 * ikiMbc (readField buf ikiLayout.width) (readField buf ikiLayout.height)) :
    ikiTableOf buf = some e.table.toBytes := by
  obtain ⟨⟨extra, hpacked⟩, -⟩ := ikiPackedTable_eq Config.lzssFlagOrder e.table
  obtain ⟨work, hdst, -, hwork⟩ := lzDecomp_lzComp Config.lzssFlagOrder e.table.toBytes extra
  refine (ikiTableOf_eq_some_iff _ _).2 ⟨work, ?_, hdst⟩
  rw [hdata, ← hz, hpacked, ← hsize, ← toBytes_length, hwork]

/-- An Iki frame passes the validator, with the dimensions and the table it was built from. -/
theorem identifyAs_buildIki (horder : j.order = Config.lzssFlagOrder)
    (hw : 0 < j.width ∧ j.width < 256 ^ ikiLayout.width.width)
    (hh : 0 < j.height ∧ j.height < 256 ^ ikiLayout.height.width)
    (hfits : (ikiPackedTable j.order e.table).length < 256 ^ ikiLayout.csize.width)
    (hsize : e.table.size = 12 * ikiMbc j.width j.height) (body : List Byte) (count : Nat) :
    ∃ p, identifyAs .iki (buildIki j e body) (buildIki j e body).length count = some p ∧
      p.buffer = buildIki j e body ∧ p.stop = (buildIki j e body).length ∧
      p.mbCount = ikiMbc j.width j.height ∧ p.ikiTable = e.table.toBytes ∧ (buildIki j e body).drop p.start = body := by
  obtain ⟨z, hz⟩ : ∃ z, ikiPackedTable j.order e.table = z := ⟨_, rfl⟩
  have heven := (ikiPackedTable_eq j.order e.table).2
  rw [hz] at hfits heven
  have hmagic := readField_buildIki hz body (p := ikiLayout.magic) (by simp [ikiFields]) (ikiFields_ok j z).2
  have hwidth := readField_buildIki hz body (p := ikiLayout.width) (by simp [ikiFields]) hw.2
  have hheight := readField_buildIki hz body (p := ikiLayout.height) (by simp [ikiFields]) hh.2
  have hcsize := readField_buildIki hz body (p := ikiLayout.csize) (by simp [ikiFields]) hfits
  have hlen : ikiLayout.lzOffset + z.length ≤ (buildIki j e body).length :=
    (lzOffset_le_ikiBsOffset z.length).trans (by simp [buildIki_eq hz])
  have htable : ikiTableOf (buildIki j e body) = some e.table.toBytes := by
    refine ikiTableOf_eq (horder ▸ hz) ?_ ?_
    · rw [hcsize, buildIki_table hz]
    · rw [hwidth, hheight, hsize]
  refine ⟨_, identifyAs_iki_eq_some_iff.2 ⟨(ikiFieldsValid_iff _ _).2 ?_, _, htable, rfl⟩, rfl, rfl, ?_, rfl, ?_⟩
  · rw [hmagic, hwidth, hheight, hcsize]
    exact ⟨by omega, rfl, hw.1, hh.1, heven, hlen⟩
  · rw [hwidth, hheight]
  · rw [hcsize, buildIki_eq hz]
    exact drop_header _ _

end

/-! ### What an encode that answers a frame leaves (44_encoder.md R221, R223) -/

/-- A block leaves the macroblock count alone. -/
theorem encodeBlock_mbCount (mb b : Nat) (blk : List MdecCode) (st : EncSt) :
    (encodeBlock mb b blk st).1.enc.mbCount = st.enc.mbCount := by
  obtain ⟨hdc, -, -⟩ := encodeDc_counts mb b (blk.headD 0) st
  rw [← encodeAcs_enc (acCodes blk)] at hdc
  unfold encodeBlock
  split
  · next hac =>
    rw [hac] at hdc
    exact hdc
  · next hac =>
    rw [hac] at hdc
    exact hdc

/-- The blocks of a frame leave the scales and the macroblock count alone, whatever the source answers. -/
theorem encodeBlocks_keeps (src : List Answer) (ps : List (Nat × Nat)) (st : EncSt) :
    SameScales st.enc (encodeBlocks src ps st).1.enc ∧ (encodeBlocks src ps st).1.enc.mbCount = st.enc.mbCount := by
  induction ps generalizing st with
  | nil => exact ⟨SameScales.refl _, rfl⟩
  | cons p ps ih =>
    have hone : SameScales st.enc (encodeOne src p.1 p.2 st).1.enc ∧
        (encodeOne src p.1 p.2 st).1.enc.mbCount = st.enc.mbCount := by
      unfold encodeOne
      dsimp only
      split
      · exact ⟨SameScales.refl _, rfl⟩
      · split
        · exact ⟨SameScales.refl _, rfl⟩
        · exact ⟨sameScales_encodeBlock .., encodeBlock_mbCount ..⟩
    unfold encodeBlocks
    split
    · next st' hst =>
      rw [hst] at hone
      exact ⟨hone.1.trans (ih st').1, (ih st').2.trans hone.2⟩
    · next st' e hst =>
      rw [hst] at hone
      exact hone

/-- The registers and the frame that an encode of legal operands answers. -/
structure FrameAnswered (f : Format) (o : Operands) (st : EncSt) (bytes : List Byte) : Prop where
  legal : legalEncode f o
  work : AtWork f o st
  mbCount : st.enc.mbCount = o.mbCount
  tableSize : f = .iki → st.enc.table.size = 12 * o.mbCount
  assembled : assembles (frameJob f o) st.enc = true
  bytes : bytes = buildFrame (frameJob f o) st.enc (finalBytes st.wr.bits st.wr.policy st.wr.align)

section
variable {f : Format} {o : Operands} {st : EncSt} {bytes : List Byte}

/-- A frame is answered at the end of all blocks. -/
theorem frameAnswered_of_encodeFrame {st0 : EncSt} (hlegal : legalEncode f o)
    (h : encodeFrame (frameJob f o) st0 = (st, .frame bytes)) : FrameAnswered f o st bytes := by
  obtain ⟨hwork, hmb⟩ := encodeBlocks_keeps o.source (blockOrder o.mbCount) (blocksStart f o)
  have hstart : EncRuns (6 * o.mbCount) (blocksStart f o) :=
    encRuns_encStart ((jobLegal_iff f o).2 hlegal) (frameJob_alignOk f o)
  rw [← blockOrder_length] at hstart
  obtain ⟨hruns, -⟩ := hstart.encodeBlocks o.source
  rw [encodeFrame_legal hlegal] at h
  split at h
  · next st' hblocks =>
    rw [hblocks] at hwork hmb hruns
    have hsize := hruns.tableSize
    have hformat : st'.enc.format = f := hwork.format
    rw [hformat, hmb] at hsize
    unfold finishFrame at h
    dsimp only at h
    split at h
    · next hassembles =>
      cases h
      exact ⟨hlegal, hwork, hmb, fun hf => hsize.trans (if_pos hf), hassembles, rfl⟩
    · cases h
  · cases h

/-- A command that reports a frame has encoded it. -/
theorem frameAnswered_of_exec {s t : State} {fmt : BitVec 3} {size : Nat} (hf : Format.ofCode fmt = some f)
    (h : exec (.encFrame fmt) s = .next t) (hreply : t.host.reply = .frame bytes size) :
    FrameAnswered f s.host.operands ⟨t.enc, t.wr⟩ bytes ∧ size = bytes.length := by
  by_cases hlegal : legalEncode f s.host.operands
  · change execEncFrame fmt s = _ at h
    simp only [execEncFrame, hf, (jobLegal_iff _ _).2 hlegal, Bool.not_true, Bool.false_eq_true, if_false] at h
    split at h
    · next st bytes' hencode =>
      obtain rfl := Host.Outcome.next.inj h
      obtain ⟨rfl, rfl⟩ := Reply.frame.inj hreply
      exact ⟨frameAnswered_of_encodeFrame hlegal hencode, rfl⟩
    · obtain rfl := Host.Outcome.next.inj h
      cases hreply
  · rw [exec_encFrame_illegal hf hlegal] at h
    obtain rfl := Host.Outcome.next.inj h
    cases hreply

/-! ### The validator on the frame answered (44_encoder.md R237) -/

/-- The scale registers of an encode of a format that uses them hold the operands' scales. -/
theorem FrameAnswered.qFrame (h : FrameAnswered f o st bytes) (hf : isStr f = true) :
    st.enc.qFrame.toNat = o.qscale ∧ 1 ≤ o.qscale ∧ o.qscale ≤ 63 := by
  have hq := h.work.qFrame
  have hlegal := h.legal
  simp only [encStart, frameJob, hf, if_true] at hq
  rw [hq]
  cases f with
  | strv1 | strv2 | strv3 => exact ⟨scaleReg_toNat hlegal, hlegal⟩
  | iki | lain => cases hf

theorem FrameAnswered.qLain (h : FrameAnswered .lain o st bytes) :
    (st.enc.qLuma.toNat = o.qscaleLuma ∧ 1 ≤ o.qscaleLuma ∧ o.qscaleLuma ≤ 63) ∧
      st.enc.qChroma.toNat = o.qscaleChroma ∧ 1 ≤ o.qscaleChroma ∧ o.qscaleChroma ≤ 63 := by
  obtain ⟨hl1, hl63, hc⟩ := h.legal
  have hluma : st.enc.qLuma = scaleReg o.qscaleLuma := h.work.qLuma
  have hchroma : st.enc.qChroma = scaleReg o.qscaleChroma := h.work.qChroma
  rw [hluma, hchroma]
  exact ⟨⟨scaleReg_toNat ⟨hl1, hl63⟩, hl1, hl63⟩, scaleReg_toNat hc, hc⟩

/-- The record that a format's validator returns for a frame that was answered. -/
structure ValidRecord (f : Format) (o : Operands) (st : EncSt) (bytes : List Byte) (p : FrameParams) : Prop where
  identified : identifyAs f bytes bytes.length o.mbCount = some p
  buffer : p.buffer = bytes
  stop : p.stop = bytes.length
  mbCount : p.mbCount = o.mbCount
  str : isStr f = true → p.qscale = o.qscale
  lain : f = .lain → p.qscaleLuma = o.qscaleLuma ∧ p.qscaleChroma = o.qscaleChroma
  iki : f = .iki → p.ikiTable = st.enc.table.toBytes
  body : bytes.drop p.start = finalBytes st.wr.bits st.wr.policy st.wr.align

theorem validRecord_str (h : FrameAnswered f o st bytes) (hf : isStr f = true) : ∃ p, ValidRecord f o st bytes p := by
  obtain ⟨hq, hlegal⟩ := h.qFrame hf
  obtain ⟨hid, hscale, hbody⟩ := identifyAs_buildStr (j := frameJob f o) (e := st.enc) hf (hq ▸ hlegal)
    (finalBytes st.wr.bits st.wr.policy st.wr.align) o.mbCount
  have hbytes : buildStr (frameJob f o) st.enc (finalBytes st.wr.bits st.wr.policy st.wr.align) = bytes := by
    rw [h.bytes]
    cases f with
    | strv1 | strv2 | strv3 => rfl
    | iki | lain => cases hf
  rw [hbytes] at hid hscale hbody
  refine ⟨_, hid, rfl, rfl, rfl, fun _ => hscale.trans hq, ?_, ?_, hbody⟩
  · rintro rfl
    cases hf
  · rintro rfl
    cases hf

theorem validRecord_lain (h : FrameAnswered .lain o st bytes) : ∃ p, ValidRecord .lain o st bytes p := by
  obtain ⟨⟨hl, hllegal⟩, hc, hclegal⟩ := h.qLain
  obtain ⟨hid, hluma, hchroma, hbody⟩ := identifyAs_buildLain (e := st.enc) (hl ▸ hllegal) (hc ▸ hclegal)
    (finalBytes st.wr.bits st.wr.policy st.wr.align) o.mbCount
  have hbytes : buildLain st.enc (finalBytes st.wr.bits st.wr.policy st.wr.align) = bytes := h.bytes.symm
  rw [hbytes] at hid hluma hchroma hbody
  exact ⟨_, hid, rfl, rfl, rfl, nofun, fun _ => ⟨hluma.trans hl, hchroma.trans hc⟩, nofun, hbody⟩

theorem validRecord_iki (h : FrameAnswered .iki o st bytes) : ∃ p, ValidRecord .iki o st bytes p := by
  obtain ⟨-, -, hcount, hw, hh⟩ := h.legal
  have hfits := h.assembled
  simp only [assembles, frameJob, bne_self_eq_false, Bool.false_or] at hfits
  obtain ⟨p, hid, hbuffer, hstop, hmb, htable, hbody⟩ := identifyAs_buildIki (j := frameJob .iki o) (e := st.enc) rfl
    hw hh (of_decide_eq_true hfits) ((h.tableSize rfl).trans (by rw [hcount]; rfl))
    (finalBytes st.wr.bits st.wr.policy st.wr.align) o.mbCount
  have hbytes : buildIki (frameJob .iki o) st.enc (finalBytes st.wr.bits st.wr.policy st.wr.align) = bytes :=
    h.bytes.symm
  rw [hbytes] at hid hbuffer hstop hbody
  exact ⟨p, hid, hbuffer, hstop, hmb.trans hcount.symm, nofun, nofun, fun _ => htable, hbody⟩

theorem exists_validRecord (h : FrameAnswered f o st bytes) : ∃ p, ValidRecord f o st bytes p := by
  cases f with
  | strv1 | strv2 | strv3 => exact validRecord_str h rfl
  | iki => exact validRecord_iki h
  | lain => exact validRecord_lain h

end

/-- Settles O45: the frame answered is built from the encode's registers, and its validator reads them back. -/
theorem frameValidates : Obligations.FrameValidates := by
  intro s t fmt f bytes size hf hexec hreply o
  obtain ⟨hanswered, hsize⟩ := frameAnswered_of_exec hf hexec hreply
  obtain ⟨p, hid, hbuffer, hstop, hmb, hstr, hlain, hiki, hbody⟩ := exists_validRecord hanswered
  exact ⟨p, hid, identifyAs_format hid, hbuffer, hstop, hsize, hmb, fun hv => hstr ((isStr_iff f).2 hv), hlain, hiki,
    hbody⟩

end Sys2Proof.Machine
end

section
/-! PROOFS. 45_qscale_search.md R249: SRCH_SINGLE under two budgets (O51). An attempt does not see the budget; a larger one
only turns frames that were too big into frames that fit. -/

namespace Sys2Proof.Machine

/-! ### The three ends of an attempt (45_qscale_search.md R245) -/

section
variable {b1 b2 : Nat} {j : EncJob}

/-- An attempt is passed over, fits, or ends the search by an exception. -/
theorem attempt_cases (budget : Nat) (j : EncJob) :
    passedOver budget j ∨ (∃ bytes, fitsAs budget j bytes) ∨
      ∃ code info, attempt j = .raised ⟨code, info⟩ ∧ code ≠ 4#4 := by
  cases hj : attempt j with
  | frame bytes =>
    by_cases hfit : bytes.length ≤ budget
    · exact .inr (.inl ⟨bytes, hj, hfit⟩)
    · exact .inl (.inl ⟨bytes, hj, Nat.not_le.1 hfit⟩)
  | raised e =>
    obtain ⟨code, info⟩ := e
    by_cases hcode : code = 4#4
    · exact .inl (.inr ⟨info, by rw [hj, hcode]⟩)
    · exact .inr (.inr ⟨code, info, rfl, hcode⟩)

theorem fitsAs_mono {bytes : List Byte} (hb : b1 ≤ b2) (h : fitsAs b1 j bytes) : fitsAs b2 j bytes :=
  ⟨h.1, h.2.trans hb⟩

/-- What a larger budget passes over, a smaller one does too. -/
theorem passedOver_anti (hb : b1 ≤ b2) (h : passedOver b2 j) : passedOver b1 j :=
  h.imp_left fun ⟨bytes, hframe, hbig⟩ => ⟨bytes, hframe, hb.trans_lt hbig⟩

/-- What one budget passes over raises no exception that would end the search under another. -/
theorem passedOver_or_fitsAs (b2 : Nat) (h : passedOver b1 j) : passedOver b2 j ∨ ∃ bytes, fitsAs b2 j bytes := by
  obtain ⟨bytes, hframe, -⟩ | hmuch := h
  · exact (Nat.lt_or_ge b2 bytes.length).imp (fun hbig => .inl ⟨bytes, hframe, hbig⟩) fun hfit => ⟨bytes, hframe, hfit⟩
  · exact .inl (.inr hmuch)

end

/-! ### The first scale that is not passed over -/

/-- Among the numbers from a to b, all have a property or there is a first one without it. -/
theorem forall_or_exists_first (p : Nat → Prop) (a b : Nat) :
    (∀ q, a ≤ q → q ≤ b → p q) ∨ ∃ q, a ≤ q ∧ q ≤ b ∧ (∀ q', a ≤ q' → q' < q → p q') ∧ ¬ p q := by
  classical
  by_cases hall : ∀ q, a ≤ q → q ≤ b → p q
  · exact .inl hall
  · push Not at hall
    have hfirst := Nat.find_spec hall
    have hbefore := fun q' hq' => Nat.find_min (m := q') hall hq'
    obtain ⟨haq, hqb, hnot⟩ := hfirst
    refine .inr ⟨_, haq, hqb, fun q' ha' hq' => ?_, hnot⟩
    by_contra hn
    exact hbefore q' hq' ⟨ha', hq'.le.trans hqb, hn⟩

/-- A search over scales meets only attempts it passes over, or a first one that fits or ends it by an exception. -/
theorem search_cases (budget : Nat) (job : Nat → EncJob) (a b : Nat) :
    (∀ q, a ≤ q → q ≤ b → passedOver budget (job q)) ∨
      ∃ q, a ≤ q ∧ q ≤ b ∧ (∀ q', a ≤ q' → q' < q → passedOver budget (job q')) ∧
        ((∃ bytes, fitsAs budget (job q) bytes) ∨
          ∃ code info, attempt (job q) = .raised ⟨code, info⟩ ∧ code ≠ 4#4) := by
  obtain hall | ⟨q, ha, hb, hpassed, hnot⟩ := forall_or_exists_first (fun q => passedOver budget (job q)) a b
  · exact .inl hall
  · exact .inr ⟨q, ha, hb, hpassed, (attempt_cases budget (job q)).resolve_left hnot⟩

/-! ### What SRCH_SINGLE replies (45_qscale_search.md R248) -/

/-- The replies of SRCH_SINGLE, each with the attempts that lead to it. -/
inductive SingleReplies (o : Operands) (fmt : BitVec 3) : Reply → Prop
  | exception (code : BitVec 4) (info : Int) : SingleReplies o fmt (.exception code info none)
  | found {f : Format} {q : Nat} {bytes : List Byte} (hf : Format.ofCode fmt = some f) (hlain : f ≠ .lain) (h1 : 1 ≤ q)
    (h63 : q ≤ 63) (hpassed : ∀ q', 1 ≤ q' → q' < q → passedOver o.budget (singleJob f o q'))
    (hfits : fitsAs o.budget (singleJob f o q) bytes) : SingleReplies o fmt (.found bytes q)
  | noFit {f : Format} (hf : Format.ofCode fmt = some f) (hlain : f ≠ .lain)
    (hpassed : ∀ q, 1 ≤ q → q ≤ 63 → passedOver o.budget (singleJob f o q)) : SingleReplies o fmt .noFit

section
variable {s : State} {fmt : BitVec 3} {f : Format}

theorem exec_srchSingle_found (hf : Format.ofCode fmt = some f) (hlain : f ≠ .lain) {q : Nat} {bytes : List Byte}
    (h1 : 1 ≤ q) (h63 : q ≤ 63)
    (hpassed : ∀ q', 1 ≤ q' → q' < q → passedOver s.host.operands.budget (singleJob f s.host.operands q'))
    (hfits : fitsAs s.host.operands.budget (singleJob f s.host.operands q) bytes) :
    ∃ t, exec (.srchSingle fmt) s = .next t ∧ t.host.reply = .found bytes q := by
  obtain ⟨-, -, hlegal⟩ := singleSearch s (.srchSingle fmt) fmt 1 (.inl ⟨rfl, rfl⟩)
  obtain ⟨hfound, -, -⟩ := (hlegal f hf hlain).2 le_rfl (by decide)
  obtain ⟨e, w, hexec⟩ := hfound q bytes h1 h63 hpassed hfits
  exact ⟨_, hexec, rfl⟩

theorem exec_srchSingle_noFit (hf : Format.ofCode fmt = some f) (hlain : f ≠ .lain)
    (hpassed : ∀ q, 1 ≤ q → q ≤ 63 → passedOver s.host.operands.budget (singleJob f s.host.operands q)) :
    ∃ t, exec (.srchSingle fmt) s = .next t ∧ t.host.reply = .noFit := by
  obtain ⟨-, -, hlegal⟩ := singleSearch s (.srchSingle fmt) fmt 1 (.inl ⟨rfl, rfl⟩)
  obtain ⟨-, hnoFit, -⟩ := (hlegal f hf hlain).2 le_rfl (by decide)
  obtain ⟨e, w, hexec⟩ := hnoFit hpassed
  exact ⟨_, hexec, rfl⟩

theorem exec_srchSingle_raised (hf : Format.ofCode fmt = some f) (hlain : f ≠ .lain) {q : Nat} {code : BitVec 4}
    {info : Int} (h1 : 1 ≤ q) (h63 : q ≤ 63)
    (hpassed : ∀ q', 1 ≤ q' → q' < q → passedOver s.host.operands.budget (singleJob f s.host.operands q'))
    (hraised : attempt (singleJob f s.host.operands q) = .raised ⟨code, info⟩) (hcode : code ≠ 4#4) :
    ∃ t, exec (.srchSingle fmt) s = .next t ∧ t.host.reply = .exception code info none := by
  obtain ⟨-, -, hlegal⟩ := singleSearch s (.srchSingle fmt) fmt 1 (.inl ⟨rfl, rfl⟩)
  obtain ⟨-, -, hraises⟩ := (hlegal f hf hlain).2 le_rfl (by decide)
  obtain ⟨e, w, hexec⟩ := hraises q code info h1 h63 hpassed hraised hcode
  exact ⟨_, hexec, rfl⟩

/-- SRCH_SINGLE always completes, with one of its replies. -/
theorem exec_srchSingle_replies (s : State) (fmt : BitVec 3) :
    ∃ t, exec (.srchSingle fmt) s = .next t ∧ SingleReplies s.host.operands fmt t.host.reply := by
  cases hf : Format.ofCode fmt with
  | none => exact ⟨_, exec_search_reserved (.inl ⟨rfl, rfl⟩) hf, .exception _ _⟩
  | some f =>
    by_cases hlain : f = .lain
    · exact ⟨_, exec_search_lain (.inl ⟨rfl, rfl⟩) (hlain ▸ hf), .exception _ _⟩
    · obtain hall | ⟨q, h1, h63, hpassed, ⟨bytes, hfits⟩ | ⟨code, info, hraised, hcode⟩⟩ :=
        search_cases s.host.operands.budget (singleJob f s.host.operands) 1 63
      · obtain ⟨t, hexec, hreply⟩ := exec_srchSingle_noFit hf hlain hall
        exact ⟨t, hexec, hreply ▸ .noFit hf hlain hall⟩
      · obtain ⟨t, hexec, hreply⟩ := exec_srchSingle_found hf hlain h1 h63 hpassed hfits
        exact ⟨t, hexec, hreply ▸ .found hf hlain h1 h63 hpassed hfits⟩
      · obtain ⟨t, hexec, hreply⟩ := exec_srchSingle_raised hf hlain h1 h63 hpassed hraised hcode
        exact ⟨t, hexec, hreply ▸ .exception code info⟩

theorem singleReplies_of_exec {t : State} (h : exec (.srchSingle fmt) s = .next t) :
    SingleReplies s.host.operands fmt t.host.reply := by
  obtain ⟨t', hexec, hreplies⟩ := exec_srchSingle_replies s fmt
  cases hexec.symm.trans h
  exact hreplies

end

/-- Settles O51: the scale found under the smaller budget still fits, and what lies before it is passed over or fits. -/
theorem searchMonotone : Obligations.SearchMonotone := by
  intro s fmt b1 b2 hb withBudget
  refine ⟨fun t1 bytes1 q1 hexec hreply => ?_, fun t2 hexec hreply => ?_⟩
  · have hreplies := singleReplies_of_exec hexec
    rw [hreply] at hreplies
    cases hreplies with
    | @found f _ _ hf hlain h1 h63 hpassed hfits =>
      obtain hnone | ⟨q2, h1', hle, hbefore, hnot⟩ :=
        forall_or_exists_first (fun q => ¬ ∃ bytes, fitsAs b2 (singleJob f s.host.operands q) bytes) 1 q1
      · exact absurd ⟨bytes1, fitsAs_mono hb hfits⟩ (hnone q1 h1 le_rfl)
      · obtain ⟨bytes2, hfits2⟩ := not_not.1 hnot
        obtain ⟨t2, hexec2, hreply2⟩ := exec_srchSingle_found (s := withBudget b2) hf hlain h1' (hle.trans h63)
          (fun q hq hlt => (passedOver_or_fitsAs b2 (hpassed q hq (hlt.trans_le hle))).resolve_right (hbefore q hq hlt))
          hfits2
        exact ⟨t2, bytes2, q2, hexec2, hreply2, hle⟩
  · have hreplies := singleReplies_of_exec hexec
    rw [hreply] at hreplies
    cases hreplies with
    | noFit hf hlain hpassed =>
      exact exec_srchSingle_noFit (s := withBudget b1) hf hlain fun q h1 h63 => passedOver_anti hb (hpassed q h1 h63)

end Sys2Proof.Machine
end

section
/-! PROOFS. 45_qscale_search.md R252, R253: SRCH_LAIN over the pairs one by one (O52). The loop's fuel of 125 counts the
pairs, so it never runs out. -/

namespace Sys2Proof.Machine

/-! ### The pairs (45_qscale_search.md R252) -/

theorem lainPair_last : lainPair 124 = some (63, 63) := by decide +kernel

theorem lainPair_succ (n : Nat) : lainPair (n + 1) = (lainPair n).bind fun p => lainScaleStep p.1 p.2 := rfl

/-- The walk stops after the pair (63, 63). -/
theorem lainPair_beyond (k : Nat) : lainPair (125 + k) = none := by
  induction k with
  | zero =>
    change lainPair (124 + 1) = none
    rw [lainPair_succ, lainPair_last]
    rfl
  | succ k ih =>
    change lainPair (125 + k + 1) = none
    rw [lainPair_succ, ih]
    rfl

theorem lainPair_index_le {n : Nat} {p : Nat × Nat} (h : lainPair n = some p) : n ≤ 124 := by
  by_contra hn
  obtain ⟨k, rfl⟩ := Nat.exists_eq_add_of_le (Nat.not_le.1 hn : 125 ≤ n)
  rw [lainPair_beyond] at h
  cases h

/-! ### The loop (45_qscale_search.md R253) -/

section
variable {job : Nat → Nat → EncJob} {budget : Nat}

/-- A pair passed over leaves its scales in the searcher's registers, and the loop goes on with the next one. -/
theorem lainLoop_step {l c : Nat} {n : Nat × Nat} (h : passedOver budget (job l c)) (hstep : lainScaleStep l c = some n)
    (fuel : Nat) (x : SearchSt) :
    ∃ st, lainLoop job budget (fuel + 1) l c x =
      lainLoop job budget fuel n.1 n.2 ⟨{ x.srch with ql := l, qc := c }, st⟩ := by
  refine ⟨(encodeFrame (job l c) x.st).1, ?_⟩
  have hjudge := judge_of_passedOver h
  rw [← encodeFrame_eq_attempt (job l c) x.st] at hjudge
  obtain hbig | ⟨e, hmuch⟩ := hjudge
  · simp only [lainLoop, hbig, hstep]
  · simp only [lainLoop, hmuch, hstep]

/-- With the first n pairs passed over, n attempts of the loop's fuel are spent, and the loop is at the n-th pair. -/
theorem lainLoop_passedOver {n l c : Nat} (hn : lainPair n = some (l, c))
    (h : ∀ m p, m < n → lainPair m = some p → passedOver budget (job p.1 p.2)) (fuel : Nat) (x : SearchSt) :
    ∃ ql qc st, lainLoop job budget (fuel + n) 1 1 x =
      lainLoop job budget fuel l c ⟨{ x.srch with ql := ql, qc := qc }, st⟩ := by
  induction n generalizing l c fuel with
  | zero =>
    cases hn
    exact ⟨x.srch.ql, x.srch.qc, x.st, rfl⟩
  | succ n ih =>
    rw [lainPair_succ, Option.bind_eq_some_iff] at hn
    obtain ⟨p, hp, hstep⟩ := hn
    obtain ⟨ql, qc, st, hloop⟩ := ih hp (fun m p hm => h m p (Nat.lt_succ_of_lt hm)) (fuel + 1)
    obtain ⟨st', hnext⟩ := lainLoop_step (h n p n.lt_succ_self hp) hstep fuel ⟨{ x.srch with ql := ql, qc := qc }, st⟩
    exact ⟨p.1, p.2, st', by rw [Nat.add_comm n 1, ← Nat.add_assoc, hloop, hnext]⟩

/-- The whole search with the pairs before the n-th passed over: it is at that pair, with an attempt left. -/
theorem lainLoop_reaches {n l c : Nat} (hn : lainPair n = some (l, c))
    (h : ∀ m p, m < n → lainPair m = some p → passedOver budget (job p.1 p.2)) (x : SearchSt) :
    ∃ ql qc st, lainLoop job budget 125 1 1 x =
      lainLoop job budget (124 - n + 1) l c ⟨{ x.srch with ql := ql, qc := qc }, st⟩ := by
  have hfuel : 125 = 124 - n + 1 + n := by
    have := lainPair_index_le hn
    omega
  rw [hfuel]
  exact lainLoop_passedOver hn h _ x

theorem lainLoop_fits {n l c : Nat} {bytes : List Byte} (hn : lainPair n = some (l, c))
    (h : ∀ m p, m < n → lainPair m = some p → passedOver budget (job p.1 p.2)) (hfits : fitsAs budget (job l c) bytes)
    (x : SearchSt) :
    ∃ st, lainLoop job budget 125 1 1 x =
      (⟨{ x.srch with ql := l, qc := c, best := some bytes }, st⟩, .found bytes l c) := by
  obtain ⟨hframe, hle⟩ := hfits
  obtain ⟨ql, qc, st, hloop⟩ := lainLoop_reaches hn h x
  refine ⟨(encodeFrame (job l c) st).1, ?_⟩
  rw [hloop, lainLoop, encodeFrame_eq_attempt, hframe, judge, if_pos hle]

theorem lainLoop_raises {n l c : Nat} {e : Exc} (hn : lainPair n = some (l, c))
    (h : ∀ m p, m < n → lainPair m = some p → passedOver budget (job p.1 p.2)) (hraised : attempt (job l c) = .raised e)
    (he : e.code ≠ 4#4) (x : SearchSt) :
    ∃ st, lainLoop job budget 125 1 1 x = (⟨{ x.srch with ql := l, qc := c }, st⟩, .raised e) := by
  obtain ⟨ql, qc, st, hloop⟩ := lainLoop_reaches hn h x
  refine ⟨(encodeFrame (job l c) st).1, ?_⟩
  rw [hloop, lainLoop, encodeFrame_eq_attempt, hraised, judge, if_neg he]

/-- How the search reports that every pair was passed over, from the attempt at the last one. -/
def lainExhausted : EncResult → LainResult
  | .frame _ => .noFit
  | .raised e => .raised e

theorem lainLoop_exhausted (h : ∀ m p, lainPair m = some p → passedOver budget (job p.1 p.2)) (x : SearchSt) :
    ∃ st, lainLoop job budget 125 1 1 x =
      (⟨{ x.srch with ql := 63, qc := 63 }, st⟩, lainExhausted (attempt (job 63 63))) := by
  obtain ⟨ql, qc, st, hloop⟩ := lainLoop_reaches lainPair_last (fun m p _ => h m p) x
  refine ⟨(encodeFrame (job 63 63) st).1, ?_⟩
  obtain ⟨bytes, hframe, hbig⟩ | ⟨info, hraised⟩ := h 124 _ lainPair_last
  · rw [hloop, lainLoop, encodeFrame_eq_attempt, hframe, judge, if_neg (Nat.not_le.2 hbig)]
    rfl
  · rw [hloop, lainLoop, encodeFrame_eq_attempt, hraised, judge, if_pos rfl]
    rfl

end

/-! ### The command -/

section
variable {s : State} {y : SrchRegs} {st : EncSt}

theorem exec_srchLain_found {bytes : List Byte} {l c : Nat}
    (h : lainLoop (lainJob s.host.operands) s.host.operands.budget 125 1 1
      ⟨searchStart s.host.operands.budget, encSt s⟩ = (⟨y, st⟩, .found bytes l c)) :
    exec .srchLain s = .next (answered
      { s with
        err := { s.err with code := 0, info := 0 }
        srch := y, enc := st.enc, wr := st.wr, out := Memory.ofBytes bytes } (.foundLain bytes l c)) := by
  change execSrchLain s = _
  simp only [execSrchLain, h]
  rfl

theorem exec_srchLain_noFit
    (h : lainLoop (lainJob s.host.operands) s.host.operands.budget 125 1 1
      ⟨searchStart s.host.operands.budget, encSt s⟩ = (⟨y, st⟩, .noFit)) :
    exec .srchLain s = .next (answered
      { s with
        err := { s.err with code := 0, info := 0 }
        srch := y, enc := st.enc, wr := st.wr, out := Memory.empty } .noFit) := by
  change execSrchLain s = _
  simp only [execSrchLain, h]
  rfl

theorem exec_srchLain_raised {e : Exc}
    (h : lainLoop (lainJob s.host.operands) s.host.operands.budget 125 1 1
      ⟨searchStart s.host.operands.budget, encSt s⟩ = (⟨y, st⟩, .raised e)) :
    exec .srchLain s = .next (encodeFailed { s with srch := y, enc := st.enc, wr := st.wr } e.code e.info) := by
  change execSrchLain s = _
  simp only [execSrchLain, h, raise_encoder]
  rfl

end

/-- Settles O52: the pairs before the deciding one are passed over, and its attempt is the loop's end. -/
theorem lainSearch : Obligations.LainSearch := by
  refine ⟨lainPair_last, lainPair_beyond 0, fun s => ?_⟩
  intro o
  refine ⟨fun n l c bytes hn hpassed hfits => ?_, fun n l c code info hn hpassed hraised hcode => ?_, fun hpassed => ?_⟩
  · obtain ⟨st, hloop⟩ := lainLoop_fits hn hpassed hfits ⟨searchStart o.budget, encSt s⟩
    exact ⟨st.enc, st.wr, exec_srchLain_found hloop⟩
  · obtain ⟨st, hloop⟩ := lainLoop_raises hn hpassed hraised hcode ⟨searchStart o.budget, encSt s⟩
    exact ⟨st.enc, st.wr, exec_srchLain_raised hloop⟩
  · obtain ⟨st, hloop⟩ := lainLoop_exhausted hpassed ⟨searchStart o.budget, encSt s⟩
    refine ⟨fun bytes hframe => ?_, fun info hraised => ?_⟩
    · rw [hframe] at hloop
      exact ⟨st.enc, st.wr, exec_srchLain_noFit hloop⟩
    · rw [hraised] at hloop
      exact ⟨st.enc, st.wr, exec_srchLain_raised hloop⟩

end Sys2Proof.Machine
end

section
/-! PROOFS. 45_qscale_search.md R254 to R257: SRCH_IKI, phase by phase (O53). -/

namespace Sys2Proof.Machine

/-! ### The order of the macroblocks (45_qscale_search.md R254) -/

section
variable {energy distance : List Int}

theorem mbBefore_iff {a b : Nat} :
    mbBefore energy distance a b = true ↔
      energy.getD b 0 < energy.getD a 0 ∨ energy.getD a 0 = energy.getD b 0 ∧
        (distance.getD a 0 < distance.getD b 0 ∨ distance.getD a 0 = distance.getD b 0 ∧ a < b) := by
  simp only [mbBefore, Bool.or_eq_true, Bool.and_eq_true, decide_eq_true_eq, beq_iff_eq]

theorem mbBefore_trans {a b c : Nat} (hab : mbBefore energy distance a b = true)
    (hbc : mbBefore energy distance b c = true) : mbBefore energy distance a c = true := by
  rw [mbBefore_iff] at *
  omega

theorem mbBefore_of_not {a b : Nat} (hne : a ≠ b) (h : ¬ mbBefore energy distance a b = true) :
    mbBefore energy distance b a = true := by
  rw [mbBefore_iff] at *
  omega

theorem mbInsert_perm (a : Nat) (l : List Nat) : (mbInsert energy distance a l).Perm (a :: l) := by
  induction l with
  | nil => exact .refl _
  | cons b l ih =>
    rw [mbInsert]
    split
    · exact .refl _
    · exact (ih.cons b).trans (.swap a b l)

theorem mbInsert_pairwise {a : Nat} {l : List Nat} (ha : a ∉ l)
    (h : l.Pairwise fun a b => mbBefore energy distance a b = true) :
    (mbInsert energy distance a l).Pairwise fun a b => mbBefore energy distance a b = true := by
  induction l with
  | nil => exact List.pairwise_singleton _ _
  | cons b l ih =>
    obtain ⟨hne, hal⟩ := not_or.1 (mt List.mem_cons.2 ha)
    obtain ⟨hb, hl⟩ := List.pairwise_cons.1 h
    rw [mbInsert]
    split
    · next hab =>
      refine List.pairwise_cons.2 ⟨fun c hc => ?_, h⟩
      obtain rfl | hc := List.mem_cons.1 hc
      · exact hab
      · exact mbBefore_trans hab (hb c hc)
    · next hab =>
      refine List.pairwise_cons.2 ⟨fun c hc => ?_, ih hal hl⟩
      obtain rfl | hc := List.mem_cons.1 ((mbInsert_perm a l).mem_iff.1 hc)
      · exact mbBefore_of_not hne hab
      · exact hb c hc

/-- Inserting macroblocks one by one keeps them all, in order. -/
theorem foldr_mbInsert {l : List Nat} (h : l.Nodup) :
    (l.foldr (mbInsert energy distance) []).Perm l ∧
      (l.foldr (mbInsert energy distance) []).Pairwise fun a b => mbBefore energy distance a b = true := by
  induction l with
  | nil => exact ⟨.refl _, .nil⟩
  | cons a l ih =>
    obtain ⟨ha, hl⟩ := List.nodup_cons.1 h
    obtain ⟨hperm, hsorted⟩ := ih hl
    exact ⟨(mbInsert_perm a _).trans (hperm.cons a), mbInsert_pairwise (mt hperm.mem_iff.1 ha) hsorted⟩

theorem mbOrder_perm (energy distance : List Int) (n : Nat) : (mbOrder energy distance n).Perm (List.range n) :=
  (foldr_mbInsert List.nodup_range).1

theorem mbOrder_pairwise (energy distance : List Int) (n : Nat) :
    (mbOrder energy distance n).Pairwise fun a b => mbBefore energy distance a b = true :=
  (foldr_mbInsert List.nodup_range).2

end

/-! ### The scales of phase 2 (45_qscale_search.md R255, R257) -/

section
variable {order : List Nat} {q0 count : Nat}

theorem lowered_zero (q0 : Nat) (order : List Nat) (count : Nat) :
    lowered q0 order count 0 = List.replicate count q0 := by
  simp [lowered]

theorem lowered_length (n : Nat) : (lowered q0 order count n).length = count := by simp [lowered]

theorem lowered_getElem {n m : Nat} (hm : m < (lowered q0 order count n).length) :
    (lowered q0 order count n)[m] = if m ∈ order.take n then q0 - 1 else q0 := by
  simp [lowered]

/-- The next macroblock of the order is at the first scale still, and lowering it lowers one more of the order. -/
theorem exists_next_lowered (horder : order.Perm (List.range count)) {n : Nat} (hn : n < count) :
    ∃ mb, order.drop n = mb :: order.drop (n + 1) ∧ (lowered q0 order count n).getD mb 1 = q0 ∧
      (lowered q0 order count n).set mb (q0 - 1) = lowered q0 order count (n + 1) := by
  have hlen : n < order.length := by rwa [horder.length_eq, List.length_range]
  have hmb : order[n] < count := List.mem_range.1 (horder.mem_iff.1 (List.getElem_mem hlen))
  have htake : order.take (n + 1) = order.take n ++ [order[n]] := (List.take_append_getElem hlen).symm
  have hnew : order[n] ∉ order.take n := by
    have hnodup : (order.take (n + 1)).Nodup :=
      (horder.nodup_iff.2 List.nodup_range).sublist (List.take_sublist _ _)
    rw [htake] at hnodup
    exact fun hmem => (List.nodup_append.1 hnodup).2.2 _ hmem _ List.mem_cons_self rfl
  refine ⟨order[n], List.drop_eq_getElem_cons hlen, ?_, ?_⟩
  · rw [List.getD_eq_getElem _ _ (by rwa [lowered_length]), lowered_getElem, if_neg hnew]
  · refine List.ext_getElem (by simp only [List.length_set, lowered_length]) fun m _ _ => ?_
    have hmem : m ∈ order.take (n + 1) ↔ order[n] = m ∨ m ∈ order.take n := by
      rw [htake, List.mem_append, List.mem_singleton, or_comm, eq_comm]
    rw [List.getElem_set, lowered_getElem, lowered_getElem]
    by_cases hm : order[n] = m
    · rw [if_pos hm, if_pos (hmem.2 (.inl hm))]
    · simp only [hmem, hm, false_or, if_false]

/-! ### Phase 2 (45_qscale_search.md R255, R256) -/

variable {job : List Nat → EncJob} {budget : Nat}

/-- At scale 1 there is nothing to lower. -/
theorem ikiPhase2_at_one (mbs : List Nat) (best : List Byte) (st : EncSt) :
    ikiPhase2 job budget mbs (List.replicate count 1) best st = (st, .found best (List.replicate count 1)) := by
  induction mbs with
  | nil => rfl
  | cons mb mbs ih =>
    have hone : (List.replicate count 1).getD mb 1 = 1 := by
      rw [List.getD_eq_getElem?_getD, List.getElem?_replicate]
      split <;> rfl
    rw [ikiPhase2, if_pos hone, ih]

section
variable (horder : order.Perm (List.range count)) (hq0 : 1 < q0) {n : Nat}
include horder hq0

theorem ikiPhase2_visit_fits (hn : n < count) {bytes : List Byte}
    (hfits : fitsAs budget (job (lowered q0 order count (n + 1))) bytes) (best : List Byte) (st : EncSt) :
    ∃ st', ikiPhase2 job budget (order.drop n) (lowered q0 order count n) best st =
      ikiPhase2 job budget (order.drop (n + 1)) (lowered q0 order count (n + 1)) bytes st' := by
  obtain ⟨hframe, hle⟩ := hfits
  obtain ⟨mb, hdrop, hscale, hset⟩ := exists_next_lowered (q0 := q0) horder hn
  refine ⟨(encodeFrame (job (lowered q0 order count (n + 1))) st).1, ?_⟩
  rw [hdrop, ikiPhase2, hscale, if_neg hq0.ne', hset]
  simp only [encodeFrame_eq_attempt, hframe, judge, if_pos hle]

/-- Phase 2 ends with the scales it has at the first lowering passed over. -/
theorem ikiPhase2_visit_passedOver (hn : n < count)
    (hpassed : passedOver budget (job (lowered q0 order count (n + 1)))) (best : List Byte) (st : EncSt) :
    ∃ st', ikiPhase2 job budget (order.drop n) (lowered q0 order count n) best st =
      (st', .found best (lowered q0 order count n)) := by
  obtain ⟨mb, hdrop, hscale, hset⟩ := exists_next_lowered (q0 := q0) horder hn
  refine ⟨(encodeFrame (job (lowered q0 order count (n + 1))) st).1, ?_⟩
  rw [hdrop, ikiPhase2, hscale, if_neg hq0.ne', hset]
  obtain hjudge | ⟨e, hjudge⟩ := judge_of_passedOver hpassed
  · simp only [encodeFrame_eq_attempt, hjudge]
  · simp only [encodeFrame_eq_attempt, hjudge]

theorem ikiPhase2_visit_raises (hn : n < count) {e : Exc}
    (hraised : attempt (job (lowered q0 order count (n + 1))) = .raised e) (he : e.code ≠ 4#4) (best : List Byte)
    (st : EncSt) :
    ∃ st', ikiPhase2 job budget (order.drop n) (lowered q0 order count n) best st = (st', .raised e) := by
  obtain ⟨mb, hdrop, hscale, hset⟩ := exists_next_lowered (q0 := q0) horder hn
  refine ⟨(encodeFrame (job (lowered q0 order count (n + 1))) st).1, ?_⟩
  rw [hdrop, ikiPhase2, hscale, if_neg hq0.ne', hset]
  simp only [encodeFrame_eq_attempt, hraised, judge, if_neg he]

/-- While the lowerings fit, phase 2 keeps the last one's scales and frame. -/
theorem ikiPhase2_fits (hn : n ≤ count) (hfits : ∀ m ≤ n, ∃ b, fitsAs budget (job (lowered q0 order count m)) b)
    {best : List Byte} (hbest : attempt (job (lowered q0 order count 0)) = .frame best) {bytes : List Byte}
    (hbytes : attempt (job (lowered q0 order count n)) = .frame bytes) (st : EncSt) :
    ∃ st', ikiPhase2 job budget order (lowered q0 order count 0) best st =
      ikiPhase2 job budget (order.drop n) (lowered q0 order count n) bytes st' := by
  induction n generalizing bytes with
  | zero =>
    cases hbest.symm.trans hbytes
    exact ⟨st, rfl⟩
  | succ n ih =>
    obtain ⟨bytes', hframe, -⟩ := hfits n n.le_succ
    obtain ⟨st', hloop⟩ := ih (Nat.le_of_succ_le hn) (fun m hm => hfits m (Nat.le_succ_of_le hm)) hframe
    obtain ⟨b, hb⟩ := hfits (n + 1) le_rfl
    cases hb.1.symm.trans hbytes
    obtain ⟨st'', hvisit⟩ := ikiPhase2_visit_fits horder hq0 hn hb bytes' st'
    exact ⟨st'', hloop.trans hvisit⟩

/-- Phase 2 ends with no macroblock left, or at a lowering passed over. -/
theorem ikiPhase2_stops (hn : n ≤ count)
    (hstop : n = count ∨ passedOver budget (job (lowered q0 order count (n + 1)))) (bytes : List Byte) (st : EncSt) :
    ∃ st', ikiPhase2 job budget (order.drop n) (lowered q0 order count n) bytes st =
      (st', .found bytes (lowered q0 order count n)) := by
  by_cases hlast : n = count
  · have hlen : order.length ≤ n := by rw [horder.length_eq, List.length_range, hlast]
    exact ⟨st, by rw [List.drop_of_length_le hlen, ikiPhase2]⟩
  · exact ikiPhase2_visit_passedOver horder hq0 (lt_of_le_of_ne hn hlast) (hstop.resolve_left hlast) bytes st

end

/-- The lowerings all fit, or a first one is passed over or raises. -/
theorem ikiPhase2_cases (budget : Nat) (job : Nat → EncJob) (count : Nat) :
    ∃ n ≤ count, (∀ m, 1 ≤ m → m ≤ n → ∃ b, fitsAs budget (job m) b) ∧
      ((n = count ∨ passedOver budget (job (n + 1))) ∨
        n < count ∧ ∃ code info, attempt (job (n + 1)) = .raised ⟨code, info⟩ ∧ code ≠ 4#4) := by
  obtain hall | ⟨m, h1, hm, hbefore, hnot⟩ :=
    forall_or_exists_first (fun m => ∃ b, fitsAs budget (job m) b) 1 count
  · exact ⟨count, le_rfl, hall, .inl (.inl rfl)⟩
  · obtain ⟨n, rfl⟩ := Nat.exists_eq_add_of_le' h1
    refine ⟨n, Nat.le_of_succ_le hm, fun m h1 hmn => hbefore m h1 (Nat.lt_succ_of_le hmn), ?_⟩
    obtain hpassed | hfits | hraised := attempt_cases budget (job (n + 1))
    · exact .inl (.inr hpassed)
    · exact absurd hfits hnot
    · exact .inr ⟨hm, hraised⟩

end

/-! ### Phase 1 (45_qscale_search.md R245, R248) -/

section
variable {s : State} {f : Format} {a q : Nat}

theorem searchFrom_fits {bytes : List Byte} (ha : a ≤ q) (h63 : q ≤ 63)
    (hpassed : ∀ q', a ≤ q' → q' < q → passedOver s.host.operands.budget (singleJob f s.host.operands q'))
    (hfits : fitsAs s.host.operands.budget (singleJob f s.host.operands q) bytes) :
    ∃ st, searchFrom a f s = (⟨⟨q, 0, 0, s.host.operands.budget, some bytes⟩, st⟩, .found bytes q) := by
  obtain ⟨pre, hscales, hpre⟩ := scalesFrom_split ha h63
  rw [searchFrom, hscales]
  exact singleLoop_fits (fun q' hq' => hpassed q' (hpre q' hq').1 (hpre q' hq').2) hfits _

theorem searchFrom_raises {e : Exc} (ha : a ≤ q) (h63 : q ≤ 63)
    (hpassed : ∀ q', a ≤ q' → q' < q → passedOver s.host.operands.budget (singleJob f s.host.operands q'))
    (hraised : attempt (singleJob f s.host.operands q) = .raised e) (he : e.code ≠ 4#4) :
    ∃ st, searchFrom a f s = (⟨⟨q, 0, 0, s.host.operands.budget, none⟩, st⟩, .raised e) := by
  obtain ⟨pre, hscales, hpre⟩ := scalesFrom_split ha h63
  rw [searchFrom, hscales]
  exact singleLoop_raises (fun q' hq' => hpassed q' (hpre q' hq').1 (hpre q' hq').2) hraised he _

theorem searchFrom_noFit (ha : a ≤ 63)
    (hpassed : ∀ q, a ≤ q → q ≤ 63 → passedOver s.host.operands.budget (singleJob f s.host.operands q)) :
    ∃ st, searchFrom a f s = (⟨⟨63, 0, 0, s.host.operands.budget, none⟩, st⟩, .noFit) := by
  obtain ⟨pre, hscales, -⟩ := scalesFrom_split ha le_rfl
  rw [scalesFrom_above] at hscales
  have hall : ∀ q ∈ pre ++ [63], passedOver s.host.operands.budget (singleJob f s.host.operands q) := fun q hq =>
    hpassed q (mem_scalesFrom.1 (hscales ▸ hq)).1 (mem_scalesFrom.1 (hscales ▸ hq)).2
  obtain ⟨st, hloop⟩ := singleLoop_passedOver (pre ++ [63]) [] hall
    ⟨searchStart s.host.operands.budget, encSt s⟩
  rw [List.append_nil, List.getLast?_append, List.getLast?_singleton] at hloop
  exact ⟨st, by rw [searchFrom, hscales, hloop]; rfl⟩

end

/-! ### The two phases together (45_qscale_search.md R256) -/

/-- The macroblock scales of SRCH_IKI after n lowerings. -/
abbrev ikiScales (o : Operands) (q0 n : Nat) : List Nat :=
  lowered q0 (mbOrder o.energy o.distance o.mbCount) o.mbCount n

/-- An Iki encode has no use for a scale of the whole frame (44_encoder.md R221). -/
theorem attempt_singleJob_iki (o : Operands) (q : Nat) :
    attempt (singleJob .iki o q) = attempt (ikiJob o (ikiScales o q 0)) := by
  rw [ikiScales, lowered_zero]
  rfl

/-- Phase 1 ends at q0 with the frame `best`; phase 2, with slack and above scale 1, lowers n macroblocks and stops. -/
structure IkiEnds (o : Operands) (q0 : Nat) (best : List Byte) (n : Nat) : Prop where
  pos : 1 ≤ q0
  le : q0 ≤ 63
  passed : ∀ q, 1 ≤ q → q < q0 → passedOver o.budget (singleJob .iki o q)
  fits : fitsAs o.budget (singleJob .iki o q0) best
  count : n ≤ o.mbCount
  lowerings : ∀ m, 1 ≤ m → m ≤ n → ∃ b, fitsAs o.budget (ikiJob o (ikiScales o q0 m)) b
  start : n = 0 ∨ best.length < o.budget ∧ 1 < q0
  stop : ¬ (best.length < o.budget ∧ 1 < q0) ∨ n = o.mbCount ∨ passedOver o.budget (ikiJob o (ikiScales o q0 (n + 1)))

section
variable {o : Operands} {q0 n : Nat} {best : List Byte}

/-- Every output kept, from phase 1's on, fits. -/
theorem fitsAs_ikiScales (hbest : fitsAs o.budget (singleJob .iki o q0) best)
    (hlower : ∀ m, 1 ≤ m → m ≤ n → ∃ b, fitsAs o.budget (ikiJob o (ikiScales o q0 m)) b) :
    ∀ m ≤ n, ∃ b, fitsAs o.budget (ikiJob o (ikiScales o q0 m)) b := by
  intro m hm
  cases m with
  | zero => exact ⟨best, attempt_singleJob_iki o q0 ▸ hbest.1, hbest.2⟩
  | succ m => exact hlower _ (Nat.succ_pos m) hm

/-- After phase 1, SRCH_IKI answers the scales at which phase 2 stops, with the frame of their attempt. -/
theorem ikiSearch_found (h : IkiEnds o q0 best n) {bytes : List Byte}
    (hbytes : attempt (ikiJob o (ikiScales o q0 n)) = .frame bytes) {x : SearchSt} (hx : x.srch.best = some best) :
    ∃ st, ikiSearch o (x, .found best q0) =
      (⟨{ x.srch with best := some bytes }, st⟩, .found bytes (ikiScales o q0 n)) := by
  have horder := mbOrder_perm o.energy o.distance o.mbCount
  have hzero : attempt (ikiJob o (ikiScales o q0 0)) = .frame best := attempt_singleJob_iki o q0 ▸ h.fits.1
  by_cases hslack : best.length < o.budget ∧ 1 < q0
  · obtain ⟨hshort, hq0⟩ := hslack
    have hstop := h.stop.resolve_left (not_not.2 ⟨hshort, hq0⟩)
    obtain ⟨st, hkept⟩ := ikiPhase2_fits horder hq0 h.count (fitsAs_ikiScales h.fits h.lowerings) hzero hbytes x.st
    obtain ⟨st', hend⟩ := ikiPhase2_stops horder hq0 h.count hstop bytes st
    have hphase := hkept.trans hend
    rw [lowered_zero] at hphase
    refine ⟨st', ?_⟩
    simp only [ikiSearch, if_pos hshort, hphase]
  · obtain rfl := h.start.resolve_right hslack
    cases hzero.symm.trans hbytes
    refine ⟨x.st, ?_⟩
    rw [ikiScales, lowered_zero]
    by_cases hshort : best.length < o.budget
    · obtain rfl : q0 = 1 := by
        have := h.pos
        omega
      simp only [ikiSearch, if_pos hshort, ikiPhase2_at_one]
    · simp only [ikiSearch, if_neg hshort, ← hx]

/-- An exception of a lowering ends the search. -/
theorem ikiSearch_raised (hslack : best.length < o.budget ∧ 1 < q0) (hbest : fitsAs o.budget (singleJob .iki o q0) best)
    (hlower : ∀ m, 1 ≤ m → m ≤ n → ∃ b, fitsAs o.budget (ikiJob o (ikiScales o q0 m)) b) (hn : n < o.mbCount) {e : Exc}
    (hraised : attempt (ikiJob o (ikiScales o q0 (n + 1))) = .raised e) (he : e.code ≠ 4#4) (x : SearchSt) :
    ∃ st, ikiSearch o (x, .found best q0) = (⟨x.srch, st⟩, .raised e) := by
  obtain ⟨hshort, hq0⟩ := hslack
  have horder := mbOrder_perm o.energy o.distance o.mbCount
  have hzero : attempt (ikiJob o (ikiScales o q0 0)) = .frame best := attempt_singleJob_iki o q0 ▸ hbest.1
  have hfits := fitsAs_ikiScales hbest hlower
  obtain ⟨bytes, hbytes, -⟩ := hfits n le_rfl
  obtain ⟨st, hkept⟩ := ikiPhase2_fits horder hq0 hn.le hfits hzero hbytes x.st
  obtain ⟨st', hend⟩ := ikiPhase2_visit_raises horder hq0 hn hraised he bytes st
  have hphase := hkept.trans hend
  rw [lowered_zero] at hphase
  refine ⟨st', ?_⟩
  simp only [ikiSearch, if_pos hshort, hphase]

end

/-! ### The command -/

/-- The ordering keys have one entry for each macroblock (45_qscale_search.md R254). -/
def KeysFit (o : Operands) : Prop := o.energy.length = o.mbCount ∧ o.distance.length = o.mbCount

section
variable {s : State}

theorem exec_srchIki_badKeys (h : ¬ KeysFit s.host.operands) : exec .srchIki s = .next (encodeFailed s 6#4 4) := by
  change execSrchIki s = _
  simp only [execSrchIki, if_pos (not_and_or.1 h), raise_encoder]
  rfl

section
variable {y : SrchRegs} {st : EncSt} (hkeys : KeysFit s.host.operands)
include hkeys

theorem exec_srchIki_found {bytes : List Byte} {mbq : List Nat}
    (h : ikiSearch s.host.operands (searchFrom 1 .iki s) = (⟨y, st⟩, .found bytes mbq)) :
    exec .srchIki s = .next (answered
      { s with
        err := { s.err with code := 0, info := 0 }
        srch := y, enc := st.enc, wr := st.wr, out := Memory.ofBytes bytes } (.foundIki bytes mbq)) := by
  change execSrchIki s = _
  simp only [execSrchIki, if_neg (not_or.2 ⟨not_not.2 hkeys.1, not_not.2 hkeys.2⟩), h]
  rfl

theorem exec_srchIki_noFit (h : ikiSearch s.host.operands (searchFrom 1 .iki s) = (⟨y, st⟩, .noFit)) :
    exec .srchIki s = .next (answered
      { s with
        err := { s.err with code := 0, info := 0 }
        srch := y, enc := st.enc, wr := st.wr, out := Memory.empty } .noFit) := by
  change execSrchIki s = _
  simp only [execSrchIki, if_neg (not_or.2 ⟨not_not.2 hkeys.1, not_not.2 hkeys.2⟩), h]
  rfl

theorem exec_srchIki_raised {e : Exc} (h : ikiSearch s.host.operands (searchFrom 1 .iki s) = (⟨y, st⟩, .raised e)) :
    exec .srchIki s = .next (encodeFailed { s with srch := y, enc := st.enc, wr := st.wr } e.code e.info) := by
  change execSrchIki s = _
  simp only [execSrchIki, if_neg (not_or.2 ⟨not_not.2 hkeys.1, not_not.2 hkeys.2⟩), h, raise_encoder]
  rfl

/-! ### The ends of SRCH_IKI (45_qscale_search.md R256) -/

theorem srchIki_all_passedOver
    (hpassed : ∀ q, 1 ≤ q → q < 64 → passedOver s.host.operands.budget (singleJob .iki s.host.operands q)) :
    ∃ e w, exec .srchIki s = .next (answered
      { s with
        err := { s.err with code := 0, info := 0 }
        srch := ⟨63, 0, 0, s.host.operands.budget, none⟩
        enc := e, wr := w, out := Memory.empty } .noFit) := by
  obtain ⟨st, hloop⟩ := searchFrom_noFit (f := .iki) (a := 1) (by decide)
    fun q h1 h63 => hpassed q h1 (Nat.lt_succ_of_le h63)
  exact ⟨st.enc, st.wr, exec_srchIki_noFit hkeys (by rw [hloop]; rfl)⟩

theorem srchIki_phase1_raises {q : Nat} {e : Exc} (h1 : 1 ≤ q) (h63 : q ≤ 63)
    (hpassed : ∀ q', 1 ≤ q' → q' < q → passedOver s.host.operands.budget (singleJob .iki s.host.operands q'))
    (hraised : attempt (singleJob .iki s.host.operands q) = .raised e) (he : e.code ≠ 4#4) :
    ∃ enc w, exec .srchIki s = .next (encodeFailed
      { s with srch := ⟨q, 0, 0, s.host.operands.budget, none⟩, enc := enc, wr := w } e.code e.info) := by
  obtain ⟨st, hloop⟩ := searchFrom_raises h1 h63 hpassed hraised he
  exact ⟨st.enc, st.wr, exec_srchIki_raised hkeys (by rw [hloop]; rfl)⟩

theorem srchIki_ends {q0 n : Nat} {best bytes : List Byte} (h : IkiEnds s.host.operands q0 best n)
    (hbytes : attempt (ikiJob s.host.operands (ikiScales s.host.operands q0 n)) = .frame bytes) :
    ∃ e w, exec .srchIki s = .next (answered
      { s with
        err := { s.err with code := 0, info := 0 }
        srch := ⟨q0, 0, 0, s.host.operands.budget, some bytes⟩
        enc := e, wr := w, out := Memory.ofBytes bytes } (.foundIki bytes (ikiScales s.host.operands q0 n))) := by
  obtain ⟨st, hloop⟩ := searchFrom_fits h.pos h.le h.passed h.fits
  obtain ⟨st', hsearch⟩ := ikiSearch_found h hbytes
    (x := ⟨⟨q0, 0, 0, s.host.operands.budget, some best⟩, st⟩) rfl
  rw [← hloop] at hsearch
  exact ⟨st'.enc, st'.wr, exec_srchIki_found hkeys hsearch⟩

/-- Once phase 1 fits, SRCH_IKI ends with scales and their frame, or a lowering raises. -/
theorem srchIki_ends_or_raises {q0 : Nat} {best : List Byte} (h1 : 1 ≤ q0) (h63 : q0 ≤ 63)
    (hpassed : ∀ q', 1 ≤ q' → q' < q0 → passedOver s.host.operands.budget (singleJob .iki s.host.operands q'))
    (hbest : fitsAs s.host.operands.budget (singleJob .iki s.host.operands q0) best) :
    (∃ n, IkiEnds s.host.operands q0 best n) ∨
      ∃ t code info, exec .srchIki s = .next t ∧ t.host.reply = .exception code info none := by
  by_cases hslack : best.length < s.host.operands.budget ∧ 1 < q0
  · obtain ⟨n, hn, hlower, hstop | ⟨hlt, code, info, hraised, hcode⟩⟩ :=
      ikiPhase2_cases s.host.operands.budget
        (fun m => ikiJob s.host.operands (ikiScales s.host.operands q0 m)) s.host.operands.mbCount
    · exact .inl ⟨n, h1, h63, hpassed, hbest, hn, hlower, .inr hslack, .inr hstop⟩
    · obtain ⟨st, hloop⟩ := searchFrom_fits h1 h63 hpassed hbest
      obtain ⟨st', hsearch⟩ := ikiSearch_raised hslack hbest hlower hlt hraised hcode
        ⟨⟨q0, 0, 0, s.host.operands.budget, some best⟩, st⟩
      rw [← hloop] at hsearch
      exact .inr ⟨_, code, info, exec_srchIki_raised hkeys hsearch, rfl⟩
  · exact .inl ⟨0, h1, h63, hpassed, hbest, Nat.zero_le _, fun m h1 h0 => absurd h1 (by omega), .inl rfl, .inl hslack⟩

end

/-- What a frame answered by SRCH_IKI is: the attempt at the scales of one of its ends. -/
theorem ikiEnds_of_exec {t : State} {bytes : List Byte} {mbq : List Nat} (hexec : exec .srchIki s = .next t)
    (hreply : t.host.reply = .foundIki bytes mbq) :
    t.out = Memory.ofBytes bytes ∧ t.srch.best = some bytes ∧
      ∃ q0 best n, IkiEnds s.host.operands q0 best n ∧ mbq = ikiScales s.host.operands q0 n ∧
        fitsAs s.host.operands.budget (ikiJob s.host.operands mbq) bytes := by
  by_cases hkeys : KeysFit s.host.operands
  · obtain hall | ⟨q, h1, h63, hpassed, ⟨best, hbest⟩ | ⟨code, info, hraised, hcode⟩⟩ :=
      search_cases s.host.operands.budget (singleJob .iki s.host.operands) 1 63
    · obtain ⟨e, w, hnoFit⟩ := srchIki_all_passedOver hkeys fun q h1 h64 => hall q h1 (Nat.le_of_lt_succ h64)
      cases hnoFit.symm.trans hexec
      cases hreply
    · obtain ⟨n, hends⟩ | ⟨t', code, info, hraises, hexc⟩ := srchIki_ends_or_raises hkeys h1 h63 hpassed hbest
      · obtain ⟨b, hb⟩ := fitsAs_ikiScales hends.fits hends.lowerings n le_rfl
        obtain ⟨e, w, hfound⟩ := srchIki_ends hkeys hends hb.1
        cases hfound.symm.trans hexec
        cases hreply
        exact ⟨rfl, rfl, q, best, n, hends, rfl, hb⟩
      · cases hraises.symm.trans hexec
        cases hexc.symm.trans hreply
    · obtain ⟨e, w, hraises⟩ := srchIki_phase1_raises hkeys h1 h63 hpassed hraised hcode
      cases hraises.symm.trans hexec
      cases hreply
  · cases (exec_srchIki_badKeys hkeys).symm.trans hexec
    cases hreply

end

/-- Settles O53 (the model's function has the obligation's name): each end of phase 1 and of phase 2 fixes the answer,
and an answer with a frame comes from one of them. -/
theorem ikiSearch_two_phases : Obligations.IkiSearch := by
  refine ⟨fun energy distance n => ⟨mbOrder_perm energy distance n, mbOrder_pairwise energy distance n⟩, fun s => ?_⟩
  intro o scales keysFit passedTo slack fitsTo
  refine ⟨exec_srchIki_badKeys, srchIki_all_passedOver, fun q code info hkeys h1 h63 hpassed hraised hcode =>
    srchIki_phase1_raises hkeys h1 h63 hpassed hraised hcode, ?_, fun t bytes mbq hexec hreply => ?_⟩
  · intro q0 best n hkeys h1 h63 hpassed hbest hn hlower hstart hstop bytes hbytes
    exact srchIki_ends hkeys ⟨h1, h63, hpassed, hbest, hn, hlower, hstart, hstop⟩ hbytes
  · obtain ⟨hout, hkept, q0, best, n, hends, hmbq, hframe, hfit⟩ := ikiEnds_of_exec hexec hreply
    exact ⟨hfit, hout, hkept, q0, best, n, hends.pos, hends.le, hends.passed, hends.fits, hends.count, hmbq, hframe,
      hends.start, fun hslack hlt => (hends.stop.resolve_left (not_not.2 hslack)).resolve_left hlt.ne⟩

end Sys2Proof.Machine
end

section
/-! PROOFS. 46_lzss.md R267 to R276: LZ_COMP and LZ_DECOMP give the data back (O54), and the bounds of both directions
(O55). The commands are said once by the decompressor's answer; each bound is an invariant of the loop it is about. -/

namespace Sys2Proof.Machine

/-! ### The commands (46_lzss.md R267, R274) -/

section
variable {s : State}

theorem exec_lzComp (s : State) : exec .lzComp s = .next (answered
    { s with err := { s.err with code := 0, info := 0 }, lz := lzStart }
    (.bytes (lzComp Config.lzssFlagOrder s.host.operands.data))) := rfl

theorem exec_lzDecomp_badStart (h : s.host.operands.src.length < s.host.operands.start) :
    exec .lzDecomp s = .next (violated s 4) := by
  change execLzDecomp s = _
  simp only [execLzDecomp, if_pos h, violate_eq]
  rfl

/-- A start within the source leaves the answer to the decompressor. -/
theorem exec_lzDecomp_done {w : LzWork} (h : s.host.operands.start ≤ s.host.operands.src.length)
    (hrun : lzDecomp Config.lzssFlagOrder (lzSource s.host.operands) s.host.operands.dsize = (w, none)) :
    exec .lzDecomp s = .next (answered
      { s with err := { s.err with code := 0, info := 0 }, lz := lzRegs w } (.unpacked w.dst w.sp)) := by
  change execLzDecomp s = _
  simp only [execLzDecomp, if_neg (Nat.not_lt.2 h), hrun]
  rfl

theorem exec_lzDecomp_malformed {w : LzWork} {why : LzFault} (h : s.host.operands.start ≤ s.host.operands.src.length)
    (hrun : lzDecomp Config.lzssFlagOrder (lzSource s.host.operands) s.host.operands.dsize = (w, some why)) :
    exec .lzDecomp s = .next (refusedWith { s with lz := lzRegs w } 7#4 (lzFaultCode why) none) := by
  change execLzDecomp s = _
  simp only [execLzDecomp, if_neg (Nat.not_lt.2 h), hrun, raise_other]
  rfl

end

/-! ### The round trip (46_lzss.md R276) -/

/-- Compressed data with nothing behind it. -/
theorem lzDecomp_lzComp_alone (o : FlagOrder) (data : List Byte) : ∃ flags flagI,
    lzDecomp o (lzComp o data) data.length = (⟨(lzComp o data).length, data, flags, flagI⟩, none) := by
  obtain ⟨w, hdst, hsp, hrun⟩ := lzDecomp_lzComp o data []
  rw [List.append_nil] at hrun
  exact ⟨w.flags, w.flagI, by rw [hrun, ← hsp, ← hdst]⟩

/-- Settles O54: the pure round trip under the configured flag order is what the two commands answer. -/
theorem lzRoundTrip : Obligations.LzRoundTrip := by
  refine fun data => ⟨fun o => lzDecomp_lzComp_alone o data, ?_⟩
  rintro s rfl
  refine ⟨_, _, exec_lzComp s, fun u hsrc hstart hdsize => ?_⟩
  obtain ⟨flags, flagI, hrun⟩ := lzDecomp_lzComp_alone Config.lzssFlagOrder s.host.operands.data
  have hsource : lzSource u.host.operands = lzComp Config.lzssFlagOrder s.host.operands.data := by
    rw [lzSource, hstart, hsrc, List.drop_zero]
  rw [← hsource, ← hdsize] at hrun
  refine ⟨flags, flagI, ?_⟩
  rw [exec_lzDecomp_done (hstart ▸ Nat.zero_le _) hrun, hsource]
  rfl

/-! ### What the decompressor reads and puts out (46_lzss.md R268, R269) -/

/-- A run of the loop that stopped with at most `limit` source bytes read and at most `dsize` bytes put out, all of them
if nothing was malformed. -/
structure StopsWithin (limit dsize : Nat) (r : LzWork × Option LzFault) : Prop where
  read : r.1.sp ≤ limit
  room : r.1.dst.length ≤ dsize
  full : r.2 = none → r.1.dst.length = dsize

theorem StopsWithin.of_fault {limit dsize : Nat} {w : LzWork} {f : LzFault} (hsp : w.sp ≤ limit)
    (hdst : w.dst.length ≤ dsize) : StopsWithin limit dsize (w, some f) :=
  ⟨hsp, hdst, nofun⟩

/-- A back-reference, copied or refused, reads no further byte and keeps the output within the expected size. -/
theorem lzPutCopy_within {dsize len dist : Nat} {w w' : LzWork} {f : Option LzFault}
    (h : lzPutCopy dsize len dist w = (w', f)) (hdst : w.dst.length ≤ dsize) :
    w'.sp = w.sp ∧ w'.dst.length ≤ dsize := by
  rcases lzPutCopy_cases dsize len dist w with ⟨-, hc⟩ | ⟨-, -, hc⟩ | ⟨-, hroom, hc⟩ <;> cases hc.symm.trans h
  · exact ⟨rfl, hdst⟩
  · exact ⟨rfl, hdst⟩
  · exact ⟨rfl, (copyBack_length _ _ _).trans_le hroom⟩

theorem lzPutLiteral_within {dsize : Nat} {c : Byte} {w : LzWork} (hshort : ¬ dsize ≤ w.dst.length) :
    (lzPutLiteral c w).sp = w.sp + 1 ∧ (lzPutLiteral c w).dst.length ≤ dsize :=
  ⟨rfl, by simp only [lzPutLiteral, List.length_append, List.length_singleton]; omega⟩

/-- LZ_SP and the source bytes left never pass the limit together, so a byte read was there. -/
theorem lzLoop_stopsWithin (o : FlagOrder) (limit dsize : Nat) (src : List Byte) (left : Nat) (w : LzWork)
    (hsp : w.sp + src.length ≤ limit) (hdst : w.dst.length ≤ dsize) :
    StopsWithin limit dsize (lzLoop o dsize src left w) := by
  fun_induction lzLoop o dsize src left w with
  | case1 | case4 => next hfull => exact ⟨Nat.le_of_add_right_le hsp, hdst, fun _ => le_antisymm hdst hfull⟩
  | case2 | case3 => exact .of_fault hsp hdst
  | case5 => next ih => exact ih (by simp only [List.length_cons] at hsp ⊢; omega) hdst
  | case6 | case9 => exact .of_fault (by simp only [List.length_cons] at hsp ⊢; omega) hdst
  | case7 | case10 =>
    next hcopy ih =>
    obtain ⟨hsp', hdst'⟩ := lzPutCopy_within hcopy hdst
    exact ih (by simp +zetaDelta only [List.length_cons] at hsp hsp' ⊢; omega) hdst'
  | case8 | case11 =>
    next hcopy =>
    obtain ⟨hsp', hdst'⟩ := lzPutCopy_within hcopy hdst
    exact .of_fault (by simp +zetaDelta only [List.length_cons] at hsp hsp'; omega) hdst'
  | case12 =>
    next b rest _ hshort _ w1 _ ih =>
    obtain ⟨hsp', hdst'⟩ := lzPutLiteral_within (c := b) (w := w1) hshort
    exact ih (by simp +zetaDelta only [List.length_cons] at hsp hsp' ⊢; omega) hdst'

theorem lzDecomp_stopsWithin (o : FlagOrder) (src : List Byte) (dsize : Nat) :
    StopsWithin src.length dsize (lzDecomp o src dsize) :=
  lzLoop_stopsWithin o src.length dsize src 0 _ (Nat.zero_add _).le (Nat.zero_le _)

/-! ### What the compressor puts out (46_lzss.md R272, R275) -/

theorem backrefBytes_length_le (len dist : Nat) : (backrefBytes len dist).length ≤ 3 := by
  unfold backrefBytes
  dsimp only
  split <;> simp

/-- A group's tokens are no longer than the bytes they cover, and a group that ends before the data covers a byte with
each of its n tokens. -/
theorem lzGroup_covers (data : List Byte) (n pos : Nat) :
    pos + (lzGroup data n pos).2.1.length ≤ (lzGroup data n pos).2.2 ∧
      min (pos + n) data.length ≤ (lzGroup data n pos).2.2 := by
  induction n generalizing pos with
  | zero => exact ⟨le_rfl, min_le_left _ _⟩
  | succ n ih =>
    unfold lzGroup
    split
    · next hend => exact ⟨le_rfl, (min_le_right _ _).trans hend⟩
    · dsimp only
      split
      · next hlen =>
        obtain ⟨hbytes, hpos⟩ := ih (pos + (bestMatch data pos).1)
        have htoken := backrefBytes_length_le (bestMatch data pos).1 (bestMatch data pos).2
        simp only [List.length_append]
        omega
      · obtain ⟨hbytes, hpos⟩ := ih (pos + 1)
        simp only [List.length_cons]
        omega

/-- One flag byte for each eight bytes begun, and no token longer than what it covers. -/
theorem lzGroups_length_le (o : FlagOrder) (data : List Byte) (fuel pos : Nat) (hpos : pos ≤ data.length) :
    (lzGroups o data fuel pos).length ≤ (data.length - pos) + (data.length - pos + 7) / 8 := by
  induction fuel generalizing pos with
  | zero => exact Nat.zero_le _
  | succ fuel ih =>
    unfold lzGroups
    split
    · exact Nat.zero_le _
    · obtain ⟨-, -, hin, -⟩ := lzGroup_bounds data 8 pos hpos
      obtain ⟨hbytes, height⟩ := lzGroup_covers data 8 pos
      have hrest := ih _ hin
      simp only [List.length_cons, List.length_append]
      omega

/-- Settles O55: the loop's invariant from its start, the groups' growth from position 0, and the two ends of LZ_DECOMP
that are not a success. -/
theorem lzBounds : Obligations.LzBounds := by
  refine ⟨fun o src dsize => ?_, fun o data => lzGroups_length_le o data data.length 0 (Nat.zero_le _),
    fun s => ⟨exec_lzDecomp_badStart, fun hstart r why hrun => ?_⟩⟩
  · obtain ⟨hread, hroom, hfull⟩ := lzDecomp_stopsWithin o src dsize
    exact ⟨hread, hroom, hfull⟩
  · rw [exec_lzDecomp_malformed hstart hrun]
    cases why <;> rfl

end Sys2Proof.Machine
end

section
/-! PROOFS. 60_exceptions.md R287, R293, R300: exception entry, and what an instruction puts on the host's diagnostic list
(O8, O42, O43). A command that performs no decode step answers with a report that is no exception, or raises; each of
them is shown to, once, and the decode steps are read off their own case analysis. -/

namespace Sys2Proof.Machine

/-! ### Exception entry (60_exceptions.md R293) -/

/-- Settles O42: the raiser decides what the decoder's registers and OUT become. -/
theorem exceptionEntry : Obligations.ExceptionEntry := by
  intro s who e v
  have hdec : faultRecord who e s.dec =
      if who = .decNext ∧ (e.code = 2#4 ∨ e.code = 3#4) then
        { s.dec with faultCode := e.code, faultInfo := e.info, state := .fault }
      else s.dec := if_congr (and_congr_right' (faultsDecoder_iff e)) rfl rfl
  rw [State.raise, hdec]
  rfl

/-- Settles O8: the step takes the word, and the rejection is an exception of no decode and no encode. -/
theorem rejectedWord : Obligations.RejectedWord := by
  intro s c rest why hpend hdec
  simp only [step, fetch_cons s c rest hpend, hdec, State.rejectCommand, raise_other]
  split <;> rfl

/-! ### How a command reports (60_exceptions.md R285, R300) -/

/-- The reports that are exceptions. -/
def Reply.isException : Reply → Bool
  | .exception _ _ _ => true
  | _ => false

theorem Reply.isException_eq_false_iff (r : Reply) :
    r.isException = false ↔ ∀ code info v, r ≠ .exception code info v := by
  cases r with
  | exception code info v => exact ⟨nofun, fun h => absurd rfl (h code info v)⟩
  | _ => exact ⟨fun _ => nofun, fun _ => rfl⟩

/-- What a command that performs no decode step can answer from s: a report that is no exception, with the diagnostic
list as it was; an exception, the command's registers perhaps written before; or nothing, where the grammar reads no such
token. -/
inductive Reports (s : State) : Result → Prop
  | answers {t : State} (hdiag : t.host.diag = s.host.diag) (hreply : t.host.reply.isException = false) :
      Reports s (.next t)
  | raises {u : State} (who : Raiser) (e : Exc) (v : Option Int) (hdiag : u.host.diag = s.host.diag) :
      Reports s (.next (u.raise who e v))
  | refuses (why : Refusal) : Reports s (.refused why)

section
variable {s : State}

theorem reports_violate (c : Contract) : Reports s (violate s c) := .raises _ _ _ rfl

/-! ### Reader and writer commands -/

theorem reports_brInit (pol : Policy) : Reports s (execBrInit pol s) := by
  unfold execBrInit
  dsimp only
  split
  · exact reports_violate _
  · exact .answers rfl rfl

theorem reports_readCommand (n : BitVec 5) (view : Nat → Option Int) : Reports s (readCommand n view s) := by
  unfold readCommand
  split
  · exact reports_violate _
  · dsimp only
    split
    · exact .raises _ _ _ rfl
    · split <;> exact .answers rfl rfl

theorem reports_peekCommand (n : BitVec 5) (view : Nat → Int) : Reports s (peekCommand n view s) := by
  unfold peekCommand
  split
  · exact reports_violate _
  · exact .answers rfl rfl

theorem reports_bwInit (pol : Policy) (al : BitVec 2) : Reports s (execBwInit pol al s) := by
  unfold execBwInit
  split
  · exact reports_violate _
  · split
    · exact reports_violate _
    · exact .answers rfl rfl

theorem reports_bwWritev (n : BitVec 5) : Reports s (execBwWritev n s) := by
  unfold execBwWritev
  split_ifs
  · exact reports_violate _
  · exact reports_violate _
  · exact .answers rfl rfl

theorem reports_bwWritestr : Reports s (execBwWritestr s) := by
  unfold execBwWritestr
  dsimp only
  split_ifs
  · exact reports_violate _
  · exact reports_violate _
  · exact .answers rfl rfl

theorem reports_bwFinal : Reports s (execBwFinal s) := by
  unfold execBwFinal
  split
  · exact reports_violate _
  · exact .answers rfl rfl

/-! ### Tables, headers and the frame start -/

theorem decodeReply_isException (dia : Dialect) (w : Nat) : (decodeReply dia w).isException = false := by
  unfold decodeReply
  split <;> rfl

theorem encodeReply_isException (dia : Dialect) (run : Nat) (level : Int) :
    (encodeReply dia run level).isException = false := by
  unfold encodeReply
  split <;> rfl

theorem reports_ctDecode (dia : Dialect) : Reports s (execCtDecode dia s) := by
  unfold execCtDecode
  split
  · exact .answers rfl (decodeReply_isException _ _)
  · exact reports_violate _

theorem reports_ctEncode (dia : Dialect) : Reports s (execCtEncode dia s) := by
  unfold execCtEncode
  dsimp only
  split
  · exact .answers rfl (encodeReply_isException _ _ _)
  · exact reports_violate _

theorem reports_hdrIdentify : Reports s (execHdrIdentify s) := by
  unfold execHdrIdentify
  dsimp only
  split
  · exact reports_violate _
  · split
    · exact .answers rfl rfl
    · exact .raises _ _ _ rfl

theorem reports_decStart (fmt : BitVec 3) : Reports s (execDecStart fmt s) := by
  unfold execDecStart
  split
  · exact reports_violate _
  · split
    · exact .answers rfl rfl
    · exact reports_violate _

/-! ### Encodes and searches -/

theorem reports_encFrame (fmt : BitVec 3) : Reports s (execEncFrame fmt s) := by
  unfold execEncFrame
  split
  · exact reports_violate _
  · dsimp only
    split
    · exact .raises _ _ _ rfl
    · split
      · exact .answers rfl rfl
      · exact .raises _ _ _ rfl

theorem reports_endSearch (r : SearchSt × SearchResult) : Reports s (.next (endSearch s r)) := by
  unfold endSearch
  dsimp only
  split
  · exact .answers rfl rfl
  · exact .answers rfl rfl
  · exact .raises _ _ _ rfl

theorem reports_srchSingle (fmt : BitVec 3) : Reports s (execSrchSingle fmt s) := by
  unfold execSrchSingle
  split
  · exact reports_violate _
  · split
    · exact .raises _ _ _ rfl
    · exact reports_endSearch _

theorem reports_srchPartial (fmt : BitVec 3) : Reports s (execSrchPartial fmt s) := by
  unfold execSrchPartial
  split
  · exact reports_violate _
  · split
    · exact .raises _ _ _ rfl
    · exact reports_endSearch _

theorem reports_srchLain : Reports s (execSrchLain s) := by
  unfold execSrchLain
  dsimp only
  split
  · exact .answers rfl rfl
  · exact .answers rfl rfl
  · exact .raises _ _ _ rfl

theorem reports_srchIki : Reports s (execSrchIki s) := by
  unfold execSrchIki
  dsimp only
  split
  · exact .raises _ _ _ rfl
  · split
    · exact .answers rfl rfl
    · exact .answers rfl rfl
    · exact .raises _ _ _ rfl

/-! ### The LZSS unit -/

theorem reports_lzDecomp : Reports s (execLzDecomp s) := by
  unfold execLzDecomp
  dsimp only
  split
  · exact reports_violate _
  · split
    · exact .answers rfl rfl
    · exact .raises _ _ _ rfl

/-- A byte token reports as it does where the unit reads one. -/
theorem reports_lzToken {r : Result} (h : Reports s r) : Reports s (lzToken s r) := by
  unfold lzToken
  split
  · exact h
  · exact .refuses _

theorem reports_lzRaise (used : Nat) (f : LzFault) : Reports s (lzRaise s used f) := .raises _ _ _ rfl

theorem reports_lzFlag (f : BitVec 8) : Reports s (execLzFlag f s) := by
  refine reports_lzToken ?_
  split
  · exact .answers rfl rfl
  · exact reports_lzRaise _ _

theorem reports_lzLiteral (c : BitVec 8) : Reports s (execLzLiteral c s) := by
  refine reports_lzToken ?_
  split
  · exact .answers rfl rfl
  · exact reports_lzRaise _ _

theorem reports_lzCopyToken (used len dist : Nat) : Reports s (lzCopyToken used len dist s) := by
  unfold lzCopyToken
  split
  · exact .answers rfl rfl
  · exact .raises _ _ _ rfl

theorem reports_lzBackrefShort (len : BitVec 8) (off : BitVec 7) : Reports s (execLzBackrefShort len off s) := by
  refine reports_lzToken ?_
  split_ifs
  · exact reports_lzRaise _ _
  · exact reports_lzRaise _ _
  · exact reports_lzCopyToken _ _ _

theorem reports_lzBackrefLong (len : BitVec 8) (off : BitVec 15) : Reports s (execLzBackrefLong len off s) := by
  refine reports_lzToken ?_
  split_ifs
  · exact reports_lzRaise _ _
  · exact reports_lzRaise _ _
  · exact reports_lzRaise _ _
  · exact reports_lzCopyToken _ _ _

/-! ### Every command and byte token -/

/-- Every instruction that performs no decode step. -/
theorem exec_reports {i : Instr} (htoken : isBitstreamToken i = false) (hnext : i ≠ .decNext) :
    Reports s (exec i s) := by
  cases i with
  | reset => exact .answers rfl rfl
  | brInit pol => exact reports_brInit pol
  | brReadu n => exact exec_brReadu n s ▸ reports_readCommand n _
  | brReads n => exact exec_brReads n s ▸ reports_readCommand n _
  | brSkip n => exact exec_brSkip n s ▸ reports_readCommand n _
  | brPeeku n | brPeeks n => exact reports_peekCommand n _
  | brBitsread | brBitsrem => exact .answers rfl rfl
  | bwInit pol al => exact reports_bwInit pol al
  | bwWritev n => exact reports_bwWritev n
  | bwWritestr => exact reports_bwWritestr
  | bwFinal => exact reports_bwFinal
  | ctDecode dia => exact reports_ctDecode dia
  | ctEncode dia => exact reports_ctEncode dia
  | hdrIdentify => exact reports_hdrIdentify
  | decStart fmt => exact reports_decStart fmt
  | decNext => exact absurd rfl hnext
  | decStatus => exact .answers rfl rfl
  | encFrame fmt => exact reports_encFrame fmt
  | srchSingle fmt => exact reports_srchSingle fmt
  | srchPartial fmt => exact reports_srchPartial fmt
  | srchLain => exact reports_srchLain
  | srchIki => exact reports_srchIki
  | lzDecomp => exact reports_lzDecomp
  | lzComp => exact .answers rfl rfl
  | lzFlag f => exact reports_lzFlag f
  | lzLiteral c => exact reports_lzLiteral c
  | lzBackrefShort len off => exact reports_lzBackrefShort len off
  | lzBackrefLong len off => exact reports_lzBackrefLong len off
  | _ => nomatch htoken

/-! ### The diagnostic list (60_exceptions.md R300) -/

/-- The padding check reports END and puts its mismatch, and nothing else, on the diagnostic list (43_decoder.md
R205). -/
theorem paddingOutcome_host (v : Nat) (u : Taken) (tail : Nat) (s : State) :
    (paddingOutcome v u tail s).host =
      { s.host with
        reply := .endMark
        codeOut := some .endMark
        diag := s.host.diag ++ if padOutcome u.got v tail = .mismatch then [⟨.paddingMismatch, v⟩] else [] } := by
  unfold paddingOutcome
  dsimp only
  split <;> simp

/-- The three things an instruction that answers t can have put on the diagnostic list of s: nothing, the exception it
reports, or a decode step's padding mismatch beside a report that is no exception. -/
inductive Diagnosed (s : State) (i : Instr) (t : State) : Prop
  | silent (hdiag : t.host.diag = s.host.diag) (hreply : t.host.reply.isException = false)
  | exception (v : Option Int) (hreply : t.host.reply = .exception t.err.code t.err.info v)
      (hdiag : t.host.diag = s.host.diag ++ [⟨.exception t.err.code, t.err.info⟩]) (hout : t.host.codeOut = none)
  | mismatch (v : Int) (hi : isDecoding i = true) (hpad : t.dec.padStatus = .mismatch)
      (hreply : t.host.reply.isException = false) (hdiag : t.host.diag = s.host.diag ++ [⟨.paddingMismatch, v⟩])

variable {t : State} {i : Instr}

/-- Exception entry records the exception once, whatever registers the command wrote before it. -/
theorem diagnosed_raise {u : State} (who : Raiser) (e : Exc) (v : Option Int) (hu : u.host.diag = s.host.diag) :
    Diagnosed s i (u.raise who e v) := by
  refine .exception v rfl ?_ rfl
  rw [← hu]
  rfl

theorem Reports.diagnosed (h : Reports s (.next t)) : Diagnosed s i t := by
  cases h with
  | answers hdiag hreply => exact .silent hdiag hreply
  | raises who e v hdiag => exact diagnosed_raise who e v hdiag

/-- The padding check finds the tail, or adds its mismatch. -/
theorem diagnosed_paddingOutcome (hi : isDecoding i = true) (v : Nat) (u : Taken) (tail : Nat) :
    Diagnosed s i (paddingOutcome v u tail s) := by
  have hhost := paddingOutcome_host v u tail s
  have hreply : (paddingOutcome v u tail s).host.reply.isException = false := by
    rw [hhost]
    rfl
  by_cases hpad : padOutcome u.got v tail = .mismatch
  · refine .mismatch v hi ?_ hreply ?_
    · rw [paddingOutcome_dec, hpad]
    · rw [hhost, if_pos hpad]
  · refine .silent ?_ hreply
    rw [hhost, if_neg hpad, List.append_nil]

theorem Decodes.diagnosed (hi : isDecoding i = true) (h : Decodes s t) : Diagnosed s i t := by
  cases h with
  | notStarted _ | faultsAgain _ | faults _ _ _ => exact diagnosed_raise _ _ _ rfl
  | ended _ | startsBlock _ _ _ | startsPredicted _ _ _ _ _ | placesCode _ _ _ _ _ | endsBlock _ _ =>
    exact .silent rfl rfl
  | checksPadding v tail _ => exact diagnosed_paddingOutcome hi v _ tail

/-- DEC_NEXT and the tokens of the frame bitstream take a step of the state machine (log 9). -/
theorem decodes_of_isDecoding (hi : isDecoding i = true) (h : exec i s = .next t) : Decodes s t := by
  rcases (Bool.or_eq_true _ _).mp hi with hnext | htoken
  · obtain rfl := eq_of_beq hnext
    exact Host.Outcome.next.inj h ▸ decodes_decNext s
  · exact decodes_token htoken h

theorem exec_diagnosed (h : exec i s = .next t) : Diagnosed s i t := by
  cases hi : isDecoding i with
  | true => exact (decodes_of_isDecoding hi h).diagnosed hi
  | false =>
    obtain ⟨hnext, htoken⟩ := Bool.or_eq_false_iff.1 hi
    exact Reports.diagnosed (h ▸ exec_reports htoken (ne_of_beq_false hnext))

end

/-- Settles O43: an exception reported is the one entered, and any other report adds nothing or a padding mismatch. -/
theorem diagnosticsGrow : Obligations.DiagnosticsGrow := by
  intro i s t h
  cases exec_diagnosed h with
  | silent hdiag hreply =>
    have hno := (Reply.isException_eq_false_iff _).1 hreply
    exact ⟨fun code info v hraised => absurd hraised (hno code info v), fun _ => .inl hdiag⟩
  | exception v hreply hdiag hout =>
    refine ⟨fun code info v' hraised => ?_, fun hno => absurd hreply (hno _ _ v)⟩
    obtain ⟨rfl, rfl, -⟩ := Reply.exception.inj (hraised.symm.trans hreply)
    exact ⟨hdiag, rfl, rfl, hout⟩
  | mismatch v hi hpad hreply hdiag =>
    have hno := (Reply.isException_eq_false_iff _).1 hreply
    exact ⟨fun code info v' hraised => absurd hraised (hno code info v'), fun _ => .inr ⟨hi, hpad, v, hdiag⟩⟩

end Sys2Proof.Machine
end

section
/-! PROOFS. 70_reset_and_hazards.md R312 to R314: the block at power-on and before its first frame start (O10, O11,
O60). -/

namespace Sys2Proof.Machine

/-! ### Power-on (70_reset_and_hazards.md R313, R314) -/

/-- Settles O10: the table's column is the definition of the power-on state. -/
theorem powerOnValues : Obligations.PowerOnValues :=
  ⟨fun _ => rfl, rfl, rfl, rfl, rfl, rfl, rfl, rfl, rfl, rfl, rfl, rfl⟩

theorem spacesOk_reset : SpacesOk State.reset := ⟨rfl, rfl, rfl, rfl, rfl, rfl, rfl⟩

/-- The reader stands at the start of an empty stream. -/
theorem readerOk_reset : ReaderOk State.reset :=
  (readerOk_iff _).2 (readerAt_ok Memory.empty 0 0 .le16 le_rfl le_rfl)

theorem errorsOk_reset : ErrorsOk State.reset := ⟨by decide, fun _ => rfl, by decide⟩

theorem encoderOk_reset : EncoderOk State.reset := ⟨rounded_zero, rounded_zero, rounded_zero, rfl, le_rfl, le_rfl⟩

theorem searcherOk_reset : SearcherOk State.reset := ⟨by decide, by decide, by decide, nofun⟩

/-- Settles O60, unit by unit. -/
theorem resetSound : Obligations.ResetSound where
  spaces := spacesOk_reset
  reader := readerOk_reset
  decoder := decoderOk_reset State.reset
  errors := errorsOk_reset
  writer := fun _ => nofun
  encoder := encoderOk_reset
  searcher := searcherOk_reset
  lz := Nat.zero_le 8

/-! ### Before the first frame start (70_reset_and_hazards.md R312) -/

theorem sext_zero (n : Nat) : sext n 0 = 0 := by simp [sext]

/-- Nothing is ahead of the reader at power-on. -/
theorem ahead_reset : ahead State.reset = [] := rfl

/-- Where the stream has ended nothing is taken (40_bit_cursor.md R121). -/
theorem takeBits_of_ended {m : Memory} {r : ReaderRegs} (h : takeBit m r = none) (n : Nat) :
    takeBits m r n = ⟨0, 0, r⟩ := by
  cases n with
  | zero => rfl
  | succ n => simp [takeBits, takeLoop, h]

section
variable {n : BitVec 5}

/-- A moving command at power-on finds no bit. -/
theorem readCommand_reset (view : Nat → Option Int) (hn : n ≠ 0) :
    readCommand n view State.reset =
      .next (refusedWith { State.reset with rd := { State.reset.rd with eos := true } } 2#4 0 (view 0)) := by
  have hshort : (ahead State.reset).length < n.toNat :=
    Nat.pos_of_ne_zero fun h => hn (BitVec.eq_of_toNat_eq h)
  rw [readCommand_of_lt view readerOk_reset hn rfl hshort, takeBits_of_ended rfl]
  simp only [ahead_reset, List.take_nil, ofBits_nil, Nat.zero_mul, List.length_nil, Nat.min_zero]
  rfl

theorem peekCommand_reset (view : Nat → Int) (hn : n ≠ 0) :
    peekCommand n view State.reset = .next (answered State.reset (.peek (view 0) 0)) := by
  rw [peekCommand_eq view readerOk_reset hn]
  simp [ahead_reset]

theorem bwWritev_reset (hn : n ≠ 0) :
    exec (.bwWritev n) State.reset =
      .next (answered { State.reset with wr := ⟨toBits n.toNat 0, .le16, .two, false⟩ } .done) := by
  have hvalue : lowBits n.toNat State.reset.host.operands.value = 0 := by simp [lowBits, State.reset, HostPort.reset]
  rw [exec_bwWritev_open hn rfl, hvalue]
  rfl

end

/-- Settles O11, command by command. -/
theorem beforeFirstFrame : Obligations.BeforeFirstFrame := by
  obtain ⟨hidle, -⟩ := decNextAtRest State.reset
  refine ⟨hidle rfl, fun n hn => ?_, decStatus State.reset⟩
  rw [exec_brReadu, exec_brReads, exec_brSkip, readCommand_reset _ hn, readCommand_reset _ hn, readCommand_reset _ hn,
    sext_zero]
  have hpeeks : exec (.brPeeks n) State.reset = .next (answered State.reset (.peek (sext n.toNat 0) 0)) :=
    peekCommand_reset _ hn
  rw [sext_zero] at hpeeks
  exact ⟨rfl, rfl, rfl, peekCommand_reset _ hn, hpeeks, bwWritev_reset hn⟩

end Sys2Proof.Machine
end
